-- ==== Sys2Proof/Word.lean ====
section
/-!
DEFINITION. The widths that the manual treats as bits: a byte of the serial line (R167), a lane sample
(R18, R191), a converter code (R3), and the number of a channel (00_scope.md: sixteen channels).
Everything the manual counts or compares (ticks, counters, pressures, distances) is a natural number.
-/

namespace Sys2Proof

/-- One byte of the serial line (R166, R167). -/
abbrev Byte := BitVec 8

/-- One 16-bit two's complement sample (R18, R191). -/
abbrev Sample := BitVec 16

/-- The 12-bit code of the pressure converter (R3). -/
abbrev Code := BitVec 12

/-- A channel number, 0 to 15. -/
abbrev Chan := Fin 16

/-- The sixteen channels in ascending order. -/
def allChans : List Chan := [0, 1, 2, 3, 4, 5, 6, 7, 8, 9, 10, 11, 12, 13, 14, 15]

end Sys2Proof
end

