-- ==== Sys2Proof/Syntax.lean ====
section
/-!
DEFINITION. The commands of the block: one constructor per row of spec/opcode_table.json, in its order.
Steps of one channel name the channel; inputs from outside carry what comes in. A request row is the request
handler's take of the older READY frame (R173), in which the kind, the tag and the payload lie, so a request row
has no operand of its own (log 5).
-/

namespace Sys2Proof

/-- The commands (operations and events) of the NF16E. -/
inductive Instr where
  /-- One sample period passes (R1). -/
  | tick
  /-- The counter stands at 2^48 − 1 (R2). -/
  | timeLimit
  /-- The monitor's period timer expires (R3). -/
  | pressurePeriod
  /-- The conversion in flight completes with this code (R3). -/
  | conversionComplete (code : Code)
  /-- The lane gives a valid frame with one sample (R18); the sample is an input (log 22). -/
  | laneSample (c : Chan) (sample : Sample)
  /-- The lane gives a frame whose marker is not valid (R18). -/
  | missingFrame (c : Chan)
  /-- More than PDT ticks have passed since the peak (R32). -/
  | peakFixed (c : Chan)
  /-- The normal end of a hit (R35). -/
  | hitEnd (c : Chan)
  /-- The forced end of a hit (R36). -/
  | forcedEnd (c : Chan)
  /-- The end of a lockout (R38). -/
  | lockoutEnd (c : Chan)
  /-- The missing run has reached 4 (R19). -/
  | laneLost (c : Chan)
  /-- The good run of a LOST lane has reached 64 (R20). -/
  | laneRecovered (c : Chan)
  /-- The last sample of the settling block has been taken (R27). -/
  | settlingComplete (c : Chan)
  /-- A noise block of 4096 samples ends (R40). -/
  | noiseBlockEnd (c : Chan)
  /-- The list hands its first settled waiting entry to the associator (R53). -/
  | handOver
  /-- The horizon has passed the open event's window (R70). -/
  | closeByHorizon
  /-- The FREE locator takes the head of its queue (R105). -/
  | locationStart
  /-- The duration of the location has elapsed (R107). -/
  | locationEnd
  /-- List, associator and locator are empty in FREEZING (R160). -/
  | drainComplete
  /-- Every involved channel is in TESTING or removed (R134). -/
  | gatheringComplete
  /-- The next pulse falls due (R136). -/
  | pulse
  /-- A listening window ends (R137). -/
  | listeningWindowEnd
  /-- The check in progress completes (R147). -/
  | checkComplete
  /-- The PATTERN outcome of a channel is decided (R146). -/
  | patternOutcome (c : Chan)
  /-- Bytes are received on RXD (R169). -/
  | frameReceived (bytes : List Byte)
  /-- A character's stop bit was low and RXD came back high in time (R172). -/
  | framingError
  /-- 10 ms without a byte in FRAME (R169). -/
  | truncated
  /-- RXD has been low for two character times (R172). -/
  | lineBreak
  /-- RXD returns high after a break (R172). -/
  | lineBreakEnd
  /-- The HRDY pin changes to this level; true is the assertion the row names (R187, log 6). -/
  | hrdyAsserted (level : Bool)
  /-- The last CRC byte of the frame on TXD has gone out (R187); when that is, the sender says (log 21). -/
  | frameSent
  /-- The oldest data record has reached the age limit (R188). -/
  | ageLimit
  /-- The summary timer has counted the summary period (R186). -/
  | summaryTimer
  /-- Power-on, or RESET_N goes low (R163). -/
  | fullReset
  /-- The reset ends with BAUD1:0 at this level (R163, R166). -/
  | fullResetEnd (baud : BitVec 2)
  | identify
  | status
  | resetRun
  | channelSet
  | channelGet
  | pressureSet
  | geometrySet
  | sensorPlace
  | sensorUnplace
  | windowSet
  | zoneSet
  | associationSet
  | clusterSet
  | ruptureSet
  | reportSet
  | arm
  | armResume
  | stop
  | alarmClear
  | mapClear
  | mapRead
  | zoneRead
  | checkStartShort
  | checkStartLong
  | checkStartPattern
  | checkAbort
  | patternLoad
  | baselineRead
  | baselineReadLatest
  /-- The handler takes a frame whose kind is not a request kind (R174). -/
  | unknownKind
  deriving DecidableEq, Repr

end Sys2Proof
end

