-- ==== Sys2Proof/Decode.lean ====
section
/-!
DEFINITION. The decoder of command words. No row of spec/opcode_table.json gives bits (the block has no
instruction words), so no word spells a command. The bytes of the serial link are frames, not instruction
words: they are decoded by the link (Machine/Link.lean) and the request handler (Machine/Operands.lean).
-/

namespace Sys2Proof

/-- The command that a word spells by the table's bits: none, since no row gives bits. -/
def decodeTableWord (_nbits _w : Nat) : Option Instr := none

end Sys2Proof
end

