-- ==== Sys2Proof/Config.lean ====
section
/-!
DEFINITION. The fixed capacities and limits of the part. Each constant cites the rule that fixes it.
The spec leaves no value undefined, so there is no free value (opaque constant) here.
-/

namespace Sys2Proof.Config

/-- The largest tick, 2^48 − 1, at which the counter holds (R2). -/
def tickMax : Nat := 2 ^ 48 - 1

/-- Ticks per millisecond (00_scope.md, "Quantities"). -/
def ticksPerMs : Nat := 5000

/-- Sample periods of the conversion proper, after acquisition (R3). -/
def convertTicks : Nat := 15

/-- Values in a full filter history (R8). -/
def historyLen : Nat := 4

/-- Missing sample periods that lose a lane (R19). -/
def lossRun : Nat := 4

/-- Valid frames that recover a LOST lane (R20). -/
def recoverRun : Nat := 64

/-- Samples in a noise block (R40). -/
def blockLen : Nat := 4096

/-- The step by which a floating threshold moves at most (R41). -/
def floatStep : Nat := 3

/-- Entries the hit list can hold (R44). -/
def listCap : Nat := 512

/-- Members an event can hold (R65). -/
def maxMembers : Nat := 8

/-- Events the locator queue can hold (R104). -/
def locQueueCap : Nat := 16

/-- Notices the notice queue can hold (R181). -/
def noticeCap : Nat := 16

/-- Records the data queue can hold (R182). -/
def dataCap : Nat := 256

/-- Records a data frame can hold (R188). -/
def dataPerFrame : Nat := 16

/-- Slots of the inbound buffer (R170). -/
def slotCap : Nat := 2

/-- The longest payload in either direction (R167). -/
def payloadMax : Nat := 1020

/-- Sample periods without a byte that truncate a frame: 10 ms (R169). -/
def interByteLimit : Nat := 50000

/-- Samples a pattern slot can hold (R145). -/
def patternCap : Nat := 256

/-- Saturation values of 8, 16 and 32 bit counts. -/
def sat8 : Nat := 255
def sat16 : Nat := 65535
def sat32 : Nat := 4294967295

end Sys2Proof.Config
end

