-- ==== Sys2Proof/Machine/Bytes.lean ====
section
/-!
DEFINITION. Byte order (R191), the CRC (R168) and the frame (R167).
-/

namespace Sys2Proof.Machine

/-- `n` bytes of `v`, most significant first (R191). -/
def be : Nat → Nat → List Byte
  | 0, _ => []
  | n + 1, v => be n (v / 256) ++ [BitVec.ofNat 8 v]

/-- The value of a field of bytes, most significant first (R191). -/
def beNat (bs : List Byte) : Nat := bs.foldl (fun a b => a * 256 + b.toNat) 0

/-- A two-byte field (R191). -/
def nat16 (hi lo : Byte) : Nat := hi.toNat * 256 + lo.toNat

/-- A three-byte field (R191). -/
def nat24 (a b c : Byte) : Nat := (a.toNat * 256 + b.toNat) * 256 + c.toNat

/-- A flag byte: bit i of the list's i-th entry (R191). -/
def flagBits : List Bool → Nat
  | [] => 0
  | b :: bs => b.toNat + 2 * flagBits bs

/-- One bit into the CRC register (R168). -/
def crcBit (reg : BitVec 16) (bit : Bool) : BitVec 16 :=
  let moved := reg <<< 1
  if reg.msb != bit then moved ^^^ 0x1021#16 else moved

/-- One byte into the CRC register, most significant bit first (R168). -/
def crcByte (reg : BitVec 16) (b : Byte) : BitVec 16 :=
  [7, 6, 5, 4, 3, 2, 1, 0].foldl (fun r i => crcBit r (b.getLsbD i)) reg

/-- The CRC of a run of bytes (R168). -/
def crc16 (bs : List Byte) : BitVec 16 := bs.foldl crcByte 0xFFFF#16

/-- Kind, tag, length and payload of a frame: what the CRC covers (R168). -/
def frameBody (kind tag : Byte) (payload : List Byte) : List Byte :=
  kind :: tag :: be 2 payload.length ++ payload

/-- A whole frame: sync bytes, body and CRC (R167). -/
def frameBytes (kind tag : Byte) (payload : List Byte) : List Byte :=
  let body := frameBody kind tag payload
  0xC3#8 :: 0x3C#8 :: body ++ be 2 (crc16 body).toNat

end Sys2Proof.Machine
end

