-- ==== Sys2Proof/Machine/State.lean ====
section
/-!
DEFINITION. The state of the block as plain data: one structure per block of the part, each field citing the rule
that names it, and State, which holds them with the queue of waiting commands. State.reset is the machine right
after a full reset at power-on.
-/

namespace Sys2Proof.Machine

/-- The block's steps never fault: the spec gives every command an effect, so no constructor exists (NOTES.md,
"Stops"). Safe. -/
inductive Fault
  deriving DecidableEq, Repr

/-- Why a command has no meaning. -/
inductive Refusal where
  /-- The command has no meaning yet. Raised only by an arm of exec that is still rejected by name; no arm is.
  Safe: a run stops. -/
  | notModelled (mnemonic : String)
  deriving DecidableEq, Repr

/-! ### Enumerations (codes in 11.2) -/

/-- The pressure phase (R10). -/
inductive Phase where
  | ramp | hold | reload | unload
  deriving DecidableEq, Repr

/-- The range flag of the pressure monitor (R6). -/
inductive RangeFlag where
  | valid | over | under
  deriving DecidableEq, Repr

/-- The role of a channel (02, 2.2). -/
inductive Role where
  | locate | guard | monitor
  deriving DecidableEq, Repr

/-- The threshold mode of a channel (02, 2.2). -/
inductive ThrMode where
  | fixed | floating
  deriving DecidableEq, Repr

/-- Lane status (R18, R19). -/
inductive LaneStatus where
  | good | lost
  deriving DecidableEq, Repr

/-- Coupling verdict (R143). -/
inductive Verdict where
  | unknown | good | poor
  deriving DecidableEq, Repr

/-- Coupling policy (R144). -/
inductive Policy where
  | reportOnly | excludePoor
  deriving DecidableEq, Repr

/-- Run state (R151). -/
inductive RunState where
  | idle | armed | freezing | frozen
  deriving DecidableEq, Repr

/-- The rupture test that fired (R157, R158). -/
inductive RuptureTest where
  | clip | drop
  deriving DecidableEq, Repr

/-- Freeze reason, with the rupture test where the reason is RUPTURE (R151). -/
inductive FreezeReason where
  | stop
  | rupture (test : RuptureTest)
  | timeLimit
  deriving DecidableEq, Repr

/-- The state of a map cell, CLEAR below WATCH below ACTIVE (R115). -/
inductive CellLevel where
  | clear | watch | active
  deriving DecidableEq, Repr

/-- Sector mode (R120). -/
inductive SectorMode where
  | block | paired | quad
  deriving DecidableEq, Repr

/-- Detail level and ceiling (R184). -/
inductive Detail where
  | full | events | summary
  deriving DecidableEq, Repr

/-- Why a hit joined no event (R73). -/
inductive LoneReason where
  | lockout | monitor | repeated | full | single | guard
  deriving DecidableEq, Repr

/-- Why an event was not sent to the locator (R78). -/
inductive UnlocatedReason where
  | noGeometry | tooFew | queueFull
  deriving DecidableEq, Repr

/-- The kind of a sensor check (R133). -/
inductive CheckKind where
  | short | long | pattern
  deriving DecidableEq, Repr

/-- The result a reply carries (R174). -/
inductive Result where
  | done | clamped | state | range | busy | format | unknown
  deriving DecidableEq, Repr

/-- Cause of a RUN notice (R164). -/
inductive RunCause where
  | arm | armResume | stop | rupture | timeLimit | drain | resetRun | fullReset
  deriving DecidableEq, Repr

/-- Receive error codes (R171, R172). -/
inductive RxError where
  | framing | overrun | crc | length | truncated | brk
  deriving DecidableEq, Repr

/-- Why a check was aborted with a notice (R148). -/
inductive AbortReason where
  | phase | request | run
  deriving DecidableEq, Repr

/-- What became of the velocity estimate of a LONG check (R141). -/
inductive Adoption where
  | adopted | notAsked | notIdle | tooFew
  deriving DecidableEq, Repr

/-- What a check did to the baseline (R149). -/
inductive BaseAction where
  | kept | filled | rebased
  deriving DecidableEq, Repr

/-! ### Pressure monitor (01) -/

/-- The stamp offered to the channels (R13). -/
structure Stamp where
  pressure : Nat
  phase : Phase
  holdIndex : Nat
  belowMax : Bool
  stale : Bool
  deriving DecidableEq, Repr

/-- The pressure monitor (01). `period` and `acq` are the selections of R4: 2^period ms and 5 · 2^acq ticks. -/
structure Pressure where
  period : Fin 6
  acq : Fin 4
  zero : Nat
  span : Nat
  band : Nat
  holdCount : Nat
  onsetCount : Nat
  /-- Sample periods since the period began (R3). -/
  periodTimer : Nat
  /-- A conversion is in flight (R3). -/
  converting : Bool
  flag : RangeFlag
  /-- The pressure range change flag of STATUS (R7). -/
  flagChanged : Bool
  /-- Up to four used values, oldest first (R8). -/
  history : List Nat
  pFilt : Nat
  pMax : Nat
  pPrev : Nat
  pRef : Nat
  stable : Nat
  phase : Phase
  holdIndex : Nat
  /-- The below-max span, its count and its onset mark (R14). -/
  spanOpen : Bool
  spanCount : Nat
  spanMarked : Bool
  /-- The last onset ratio, if one has been recorded (R15). -/
  onsetRatio : Option Nat
  /-- The history was emptied by an arming or reset and no used P has entered since (R13). -/
  awaiting : Bool
  deriving DecidableEq, Repr

/-! ### Channels (02) -/

/-- The eleven configuration items of a channel (02, 2.2). -/
structure ChanCfg where
  enable : Bool
  role : Role
  mode : ThrMode
  thrCode : Nat
  margin : Nat
  refOffset : Nat
  pdt : Nat
  hdt : Nat
  hlt : Nat
  maxDur : Nat
  pulserLevel : Nat
  deriving DecidableEq, Repr

/-- A hit in progress (02, 2.4). -/
structure Hit where
  arrival : Nat
  stamp : Stamp
  lastCount : Nat
  counts : Nat
  peak : Nat
  peakTick : Nat
  peakFixed : Bool
  running : Nat
  energySum : Nat
  clipped : Bool
  deriving DecidableEq, Repr

/-- Channel state; HIT carries its hit, LOCKOUT its end tick (02, 2.3; R38). -/
inductive ChState where
  | off
  | settling
  | quiet
  | hit (h : Hit)
  | lockout (till : Nat)
  | testing
  | fault
  deriving DecidableEq, Repr

/-- One channel (02). -/
structure Channel where
  cfg : ChanCfg
  state : ChState
  /-- The current threshold. -/
  thr : Nat
  pendingThr : Option Nat
  noiseCode : Nat
  /-- Magnitude of the lane's previous sample; 0, below every threshold, after a missing frame (R18, R30). -/
  prevMag : Nat
  /-- The lane's frame of the present sample period has been taken (the model's own field, log 11). -/
  frameSeen : Bool
  /-- The noise block in progress (R40): sample periods so far, sum of magnitudes, not to be used. -/
  blockPos : Nat
  blockSum : Nat
  blockBad : Bool
  /-- The settling block has taken its last sample (R27). -/
  settleDue : Bool
  lane : LaneStatus
  missingRun : Nat
  goodRun : Nat
  /-- The five counters (R42). -/
  ended : Nat
  entered : Nat
  dropped : Nat
  lone : Nat
  faults : Nat
  /-- The per-channel fault change flag (R178). -/
  faultChanged : Bool
  /-- The channel has entered FAULT since a check last claimed it: recovered, it is no part of that check (R20; the
  model's own field, log 42). -/
  leftCheck : Bool
  deriving DecidableEq, Repr

/-! ### Hit list (03) and associator (04) -/

/-- The hit record a channel builds at the end of a hit (R39). -/
structure HitRec where
  channel : Chan
  arrival : Nat
  rise : Nat
  duration : Nat
  counts : Nat
  amplitude : Nat
  energy : Nat
  stamp : Stamp
  clipped : Bool
  long : Bool
  cut : Bool
  deriving DecidableEq, Repr

/-- An entry of the hit list; `taken` is the condition SETTLED, taken (R46). -/
structure Entry where
  record : HitRec
  taken : Bool
  deriving DecidableEq, Repr

/-- The drop range when it is not empty; an open high end is none (R56). -/
structure DropRange where
  low : Nat
  high : Option Nat
  deriving DecidableEq, Repr

/-- The open event: first arrival f, window end f + W, GUARDED mark; its members are the taken entries (R65). -/
structure OpenEvent where
  first : Nat
  windowEnd : Nat
  guarded : Bool
  deriving DecidableEq, Repr

/-- The associator (04, 4.2). -/
structure Assoc where
  w : Nat
  el : Nat
  rl : Nat
  openEvent : Option OpenEvent
  lockoutUntil : Nat
  position : Nat
  eventNo : Nat
  /-- The last event number given, 0 if none (R160, log 31). -/
  lastEvent : Nat
  deriving DecidableEq, Repr

/-- A member of an event: the entry's record and its delta (R80). -/
structure Member where
  record : HitRec
  delta : Nat
  deriving DecidableEq, Repr

/-- State of a numbered event (R80). -/
inductive EventState where
  | undecided
  | located
  | noFit
  | excluded (zone : Fin 8)
  | unlocated (reason : UnlocatedReason)
  | guarded
  deriving DecidableEq, Repr

/-- The location part of an event (R81). -/
structure LocPart where
  col : Nat
  row : Nat
  index : Nat
  residual : Nat
  mean : Nat
  quality : Nat
  edge : Bool
  zone : Option (Fin 8)
  deriving DecidableEq, Repr

/-- The event record (R80). -/
structure EventRec where
  number : Nat
  state : EventState
  firstChannel : Chan
  first : Nat
  pressure : Nat
  phase : Phase
  holdIndex : Nat
  gap : Bool
  clipped : Bool
  belowMax : Bool
  stale : Bool
  members : List Member
  loc : Option LocPart
  deriving DecidableEq, Repr

/-! ### Locator (05) -/

/-- A rectangle of cells: base and span of columns and rows (R92). -/
structure Rect where
  col : Nat
  colSpan : Nat
  row : Nat
  rowSpan : Nat
  deriving DecidableEq, Repr

/-- A sensor position (s, z) in mm (R90). -/
structure Pos where
  s : Nat
  z : Nat
  deriving DecidableEq, Repr

/-- An exclusion zone (R94). -/
structure Zone where
  on : Bool
  rect : Rect
  deriving DecidableEq, Repr

/-- A loaded geometry with what lies in its grid: positions, windows and zones (R86, R90, R92, R94). -/
structure Geometry where
  circ : Nat
  len : Nat
  nc : Nat
  nr : Nat
  pos : Vector (Option Pos) 16
  win : Vector Rect 16
  zones : Vector Zone 8
  deriving DecidableEq, Repr

/-- A location in progress with the values read at its start (R105) and the sample periods left (R106). -/
structure Locating where
  event : EventRec
  left : Nat
  geom : Geometry
  v : Nat
  rl : Nat
  deriving DecidableEq, Repr

/-- The locator; `geom` none is the geometry flag NONE (R86, R104). -/
structure Locator where
  geom : Option Geometry
  v : Nat
  queue : List EventRec
  busy : Option Locating
  deriving DecidableEq, Repr

/-! ### Activity map (06) -/

/-- A cell record (06, 6.1). -/
structure Cell where
  events : Nat
  hold : Nat
  reload : Nat
  energy : Nat
  amp : Nat
  last : Nat
  level : CellLevel
  deriving DecidableEq, Repr

/-- A zone table entry (R119). -/
structure ZoneCount where
  events : Nat
  hold : Nat
  reload : Nat
  deriving DecidableEq, Repr

/-- The activity map (06). -/
structure ActMap where
  cells : List Cell
  zones : Vector ZoneCount 16
  we : Nat
  ah : Nat
  ar : Nat
  mode : SectorMode
  lineOn : Vector Bool 4
  holdOn : Bool
  ack : Vector Bool 4
  latch : Bool
  deriving DecidableEq, Repr

/-! ### Check unit (07) -/

/-- What a check measured for one pair (R137). -/
inductive Meas where
  | notMeasured
  | silent
  | heard (delay code : Nat)
  deriving DecidableEq, Repr

/-- The pair velocity of a measured pair (R140). -/
inductive PairVel where
  | absent
  | valid (v : Nat)
  | invalid (v : Nat)
  deriving DecidableEq, Repr

/-- An entry of the latest result (R149). -/
structure PairResult where
  meas : Meas
  vel : PairVel
  degraded : Bool
  deriving DecidableEq, Repr

/-- A listener's response so far in the present window (R137). -/
structure Resp where
  delay : Nat
  peak : Nat
  deriving DecidableEq, Repr

/-- The pulse in its listening window or ring-down: pulser, t0, drive level (R29, R136). -/
structure Pulse where
  pulser : Chan
  t0 : Nat
  level : Nat
  windowOpen : Bool
  resp : Vector (Option Resp) 16
  deriving DecidableEq, Repr

/-- The outcome of a channel in a PATTERN check (R146). -/
inductive PatOutcome where
  | hit (index rise duration counts energy amplitude : Nat) (clipped long : Bool)
  | silent
  | lost
  deriving DecidableEq, Repr

/-- The replay of a pattern in one channel (R146). -/
structure Replay where
  prev : Nat
  hit : Option Hit
  outcome : Option PatOutcome
  deriving DecidableEq, Repr

/-- The check in progress (07, 7.1). `running` is false in GATHERING; `entered` is the tick g of R136. -/
structure Check where
  kind : CheckKind
  running : Bool
  entered : Nat
  involved : Vector Bool 16
  removed : Vector Bool 16
  /-- Pulsers still to be driven, in order (R134). -/
  pulsers : List Chan
  lw : Nat
  ringDown : Nat
  tolerance : Nat
  adopt : Bool
  rebase : Bool
  slot : Fin 4
  startTick : Nat
  startRun : RunState
  /-- The tick at which the next pulse falls due (R136). -/
  nextPulse : Nat
  pulse : Option Pulse
  /-- Entry 16 · pulser + listener. -/
  pairs : Vector Meas 256
  pulses : Nat
  replay : Vector Replay 16
  deriving DecidableEq, Repr

/-- The check unit (07); `check` none is READY, `latest` none: no SHORT or LONG check has completed. -/
structure CheckUnit where
  check : Option Check
  patterns : Vector (List Sample) 4
  baselineHeld : Bool
  baseline : Vector (Option Nat) 256
  verdicts : Vector Verdict 16
  policy : Policy
  latest : Option (Vector PairResult 256)
  deriving DecidableEq, Repr

/-! ### Run control (08) -/

/-- Run control (08). -/
structure RunCtl where
  run : RunState
  freeze : Option FreezeReason
  rw : Nat
  rc : Nat
  d : Nat
  clipTicks : Vector (Option Nat) 16
  /-- The counts of the arming (R160). -/
  numbered : Nat
  located : Nat
  /-- The run state from which the last full reset was taken, for its RUN notice (R164, log 10). -/
  runBefore : RunState
  deriving DecidableEq, Repr

/-! ### Link (09) -/

/-- A received frame without sync bytes and CRC (R170). -/
structure Frame where
  kind : Byte
  tag : Byte
  payload : List Byte
  deriving DecidableEq, Repr

/-- Receiver state; FRAME holds the bytes taken since the sync pair (R169). -/
inductive RxState where
  | hunt
  | sync
  | frame (got : List Byte)
  | brk
  | reset
  deriving DecidableEq, Repr

/-- The receiving side of the link (09). -/
structure Link where
  rate : BitVec 2
  rx : RxState
  timer : Nat
  /-- READY slots, older first (R170). -/
  ready : List Frame
  framing : Nat
  overrun : Nat
  crc : Nat
  length : Nat
  truncated : Nat
  brk : Nat
  deriving DecidableEq, Repr

/-! ### Reports (10) -/

/-- A reply: the request's tag and kind, the result and the data after them (R174). -/
structure Reply where
  tag : Byte
  kind : Byte
  result : Result
  data : List Byte
  deriving DecidableEq, Repr

/-- The detail of a RUN notice (R164, 11.6). -/
inductive RunDetail where
  | plain
  | clip (count rw : Nat) (channel : Chan) (counted : Vector Bool 16)
  | drop (pPrev pFilt d : Nat)
  | drain (freeze : Option FreezeReason) (ended entered dropped lone numbered located lastEvent : Nat)
  deriving DecidableEq, Repr

/-- The outcome and detail of a CHECK RESULT notice (R149). -/
inductive CheckDetail where
  | aborted (reason : AbortReason)
  | pairs (pulses measured responses degraded valid : Nat) (estimate : Option Nat)
      (adoption : Option Adoption) (base : BaseAction) (verdicts : Vector Verdict 16) (changed : Vector Bool 16)
  | pattern (slot : Fin 4) (outcomes : Vector (Option PatOutcome) 16)
  deriving DecidableEq, Repr

/-- The counts a SUMMARY carries for one channel (R186). -/
structure HitCounts where
  ended : Nat
  lone : Nat
  dropped : Nat
  deriving DecidableEq, Repr

/-- The queue levels that STATUS and SUMMARY give (R177). -/
structure Levels where
  hitList : Nat
  locQueue : Nat
  data : Nat
  notices : Nat
  deriving DecidableEq, Repr

/-- A notice (11.6). -/
inductive Notice where
  | cluster (number col row index : Nat) (old new : CellLevel) (se sh sr pressure : Nat) (phase : Phase)
      (pMax : Nat) (line : Fin 4) (outputs : Vector Bool 4) (holdq : Bool)
  | phaseChange (tick : Nat) (old new : Phase) (pFilt pMax holdIndex : Nat)
  | phaseOnset (arrival pOn ratio pMax : Nat) (phase : Phase) (holdIndex : Nat) (channel : Chan)
  | faultRange (tick : Nat) (old new : RangeFlag) (code : Code)
  | faultLost (tick : Nat) (channel : Chan) (count : Nat)
  | faultRecovered (tick : Nat) (channel : Chan) (count : Nat)
  | faultCoupling (tick : Nat) (channel : Chan) (old new : Verdict)
  | run (cause : RunCause) (after before : RunState) (tick eventNo : Nat) (detail : RunDetail)
  | checkResult (kind : CheckKind) (start finish : Nat) (runAtTake : RunState) (detail : CheckDetail)
  | linkError (code : RxError) (counter : Nat) (rx : RxState)
  | summary (tick : Nat) (run : RunState) (level : Detail) (hits : Vector HitCounts 16) (numbered located : Nat)
      (levels : Levels) (pFilt : Nat) (phase : Phase) (noticesLost eventsLost hitsLost : Nat)
  deriving DecidableEq, Repr

/-- A data record (11.5). -/
inductive DataRec where
  | hit (record : HitRec) (reason : LoneReason)
  | event (e : EventRec)
  deriving DecidableEq, Repr

/-- A record in the data queue with the tick at which it joined (R182). -/
structure Queued where
  record : DataRec
  joined : Nat
  deriving DecidableEq, Repr

/-- The snapshot of the last summary that entered the notice queue (R186). -/
structure Snapshot where
  hits : Vector HitCounts 16
  numbered : Nat
  located : Nat
  deriving DecidableEq, Repr

/-- The report unit and its transmitter (10). -/
structure Report where
  reply : Option Reply
  notices : List Notice
  data : List Queued
  level : Detail
  ceiling : Detail
  high : Nat
  low : Nat
  trigger : Nat
  age : Nat
  period : Nat
  noticesLost : Nat
  eventsLost : Nat
  hitsLost : Nat
  /-- The NOTICE_LOST change flag (R178, R181). -/
  noticeLostFlag : Bool
  snapshot : Snapshot
  /-- The summary timer, in sample periods (R186). -/
  timer : Nat
  /-- The frame going out on TXD, whole; none is IDLE (R187). -/
  tx : Option (List Byte)
  /-- The HRDY pin. -/
  hrdy : Bool
  deriving DecidableEq, Repr

/-! ### The whole state -/

/-- The state of the block. -/
structure State where
  /-- Commands waiting, first in, first out (the model's own field, log 31). -/
  pending : List Instr
  /-- A full reset is being held (R163). -/
  inReset : Bool
  tick : Nat
  press : Pressure
  chans : Vector Channel 16
  hitList : List Entry
  dropRange : Option DropRange
  dropFlag : Bool
  /-- Offers of this sample that wait for those of lower-numbered channels, in channel order (the model's own field,
  logs 31 and 34). -/
  offers : List HitRec
  assoc : Assoc
  loc : Locator
  map : ActMap
  chk : CheckUnit
  ctl : RunCtl
  link : Link
  rep : Report
  deriving DecidableEq, Repr

/-! ### Values after a full reset -/

/-- The pressure monitor after a full reset (R16, and the defaults of 01, 1.2). -/
def Pressure.reset : Pressure where
  period := 3
  acq := 1
  zero := 0
  span := 100000
  band := 100
  holdCount := 125
  onsetCount := 10
  periodTimer := 0
  converting := true
  flag := .valid
  flagChanged := false
  history := []
  pFilt := 0
  pMax := 0
  pPrev := 0
  pRef := 0
  stable := 0
  phase := .ramp
  holdIndex := 0
  spanOpen := false
  spanCount := 0
  spanMarked := false
  onsetRatio := none
  awaiting := true

/-- The default configuration of a channel (02, 2.2). -/
def ChanCfg.reset : ChanCfg where
  enable := false
  role := .locate
  mode := .fixed
  thrCode := 40
  margin := 6
  refOffset := 0
  pdt := 1000
  hdt := 4000
  hlt := 5000
  maxDur := 500000
  pulserLevel := 2

/-- A channel after a full reset (R43). DESIGN CHOICE (unsafe): prevMag is 0 (log 12). -/
def Channel.reset : Channel where
  cfg := ChanCfg.reset
  state := .off
  thr := 40
  pendingThr := none
  noiseCode := 0
  prevMag := 0
  frameSeen := false
  blockPos := 0
  blockSum := 0
  blockBad := false
  settleDue := false
  lane := .good
  missingRun := 0
  goodRun := 0
  ended := 0
  entered := 0
  dropped := 0
  lone := 0
  faults := 0
  faultChanged := false
  leftCheck := false

/-- The associator after a full reset (R84). -/
def Assoc.reset : Assoc where
  w := 5000
  el := 10000
  rl := 400
  openEvent := none
  lockoutUntil := 0
  position := 0
  eventNo := 1
  lastEvent := 0

/-- The locator after a full reset (R110). -/
def Locator.reset : Locator where
  geom := none
  v := 3000
  queue := []
  busy := none

/-- A cleared cell record (R112). -/
def Cell.cleared : Cell where
  events := 0
  hold := 0
  reload := 0
  energy := 0
  amp := 0
  last := 0
  level := .clear

/-- The activity map after a full reset (R130). -/
def ActMap.reset : ActMap where
  cells := []
  zones := Vector.replicate 16 ⟨0, 0, 0⟩
  we := 5
  ah := 3
  ar := 3
  mode := .block
  lineOn := Vector.replicate 4 true
  holdOn := false
  ack := Vector.replicate 4 false
  latch := false

/-- The check unit after a full reset (R150). -/
def CheckUnit.reset : CheckUnit where
  check := none
  patterns := Vector.replicate 4 []
  baselineHeld := false
  baseline := Vector.replicate 256 none
  verdicts := Vector.replicate 16 .unknown
  policy := .reportOnly
  latest := none

/-- Run control after a full reset (R165). DESIGN CHOICE (unsafe): before power-on the run counts as IDLE (log 9). -/
def RunCtl.reset : RunCtl where
  run := .idle
  freeze := none
  rw := 2500
  rc := 8
  d := 0
  clipTicks := Vector.replicate 16 none
  numbered := 0
  located := 0
  runBefore := .idle

/-- The link after a full reset (R179). DESIGN CHOICE (unsafe): BAUD1:0 are read as 00 at power-on (log 8). -/
def Link.reset : Link where
  rate := 0
  rx := .hunt
  timer := 0
  ready := []
  framing := 0
  overrun := 0
  crc := 0
  length := 0
  truncated := 0
  brk := 0

/-- A summary snapshot with every value 0 (R186). -/
def Snapshot.zero : Snapshot where
  hits := Vector.replicate 16 ⟨0, 0, 0⟩
  numbered := 0
  located := 0

/-- The report unit after a full reset, before the RUN notice (R190). DESIGN CHOICE (unsafe): HRDY is deasserted
(log 7). -/
def Report.reset : Report where
  reply := none
  notices := []
  data := []
  level := .full
  ceiling := .full
  high := 192
  low := 64
  trigger := 8
  age := 20
  period := 1000
  noticesLost := 0
  eventsLost := 0
  hitsLost := 0
  noticeLostFlag := false
  snapshot := Snapshot.zero
  timer := 0
  tx := none
  hrdy := false

/-- Every block at the values of its chapter for a full reset, no notice queued yet (R163). -/
def State.defaults : State where
  pending := []
  inReset := false
  tick := 0
  press := Pressure.reset
  chans := Vector.replicate 16 Channel.reset
  hitList := []
  dropRange := none
  dropFlag := false
  offers := []
  assoc := Assoc.reset
  loc := Locator.reset
  map := ActMap.reset
  chk := CheckUnit.reset
  ctl := RunCtl.reset
  link := Link.reset
  rep := Report.reset

/-- The machine right after the full reset of power-on has ended: the defaults, with the RUN notice of cause
FULL_RESET queued (R163, R164; logs 7 to 9). -/
def State.reset : State :=
  { State.defaults with
    rep := { Report.reset with notices := [.run .fullReset .idle .idle 0 1 .plain] } }

end Sys2Proof.Machine
end

