-- ==== Sys2Proof/Machine/Flags.lean ====
section
/-!
DEFINITION. Flags, tags and masks: how the hit tags, the event tags, the change flags of STATUS, the channel masks,
the packed verdicts and the output pins are formed (R178, R191, 11.2), and the pins that are functions of the state
(R120, R121, R123, R170).
-/

namespace Sys2Proof.Machine

/-- Hit tags byte: bit 0 CLIPPED, 1 LONG, 2 CUT, 3 BELOW_MAX, 4 P_STALE (11.2). -/
def HitRec.tags (r : HitRec) : Nat :=
  flagBits [r.clipped, r.long, r.cut, r.stamp.belowMax, r.stamp.stale]

/-- Event tags byte: bit 0 CLIPPED, 3 BELOW_MAX, 4 P_STALE, 5 GAP (11.2). -/
def EventRec.tags (e : EventRec) : Nat :=
  flagBits [e.clipped, false, false, e.belowMax, e.stale, e.gap]

/-- A 16-bit channel mask: bit n stands for channel n (R191). -/
def maskOf (v : Vector Bool 16) : Nat := flagBits (allChans.map fun c => v[c])

/-- The set of channels a two-byte mask field names (R191). -/
def maskSet (m : Nat) : Vector Bool 16 := Vector.ofFn fun c => m.testBit c.val

/-- Verdict codes (11.2). -/
def Verdict.code : Verdict → Nat
  | .unknown => 0
  | .good => 1
  | .poor => 2

/-- Two bits per entry, the first entry in the least significant bits. -/
def packPairs : List Nat → Nat
  | [] => 0
  | v :: vs => v + 4 * packPairs vs

/-- Packed verdicts: channel 0 in the least significant bits of the last byte (11.2). -/
def packVerdicts (v : Vector Verdict 16) : Nat := packPairs (allChans.map fun c => (v[c]).code)

/-- Output byte: bits 0 to 3 AL0 to AL3, bit 4 HOLDQ (11.2). -/
def outputByte (lines : Vector Bool 4) (holdq : Bool) : Nat :=
  flagBits [lines[0], lines[1], lines[2], lines[3], holdq]

/-- The channel fault change flags of STATUS, bit n for channel n (R178). -/
def State.faultFlags (s : State) : Nat := flagBits (allChans.map fun c => s.chans[c].faultChanged)

/-- The other change flags of STATUS: bit 0 pressure range, 1 DROP, 2 NOTICE_LOST (R178, 11.4). -/
def State.otherFlags (s : State) : Nat := flagBits [s.press.flagChanged, s.dropFlag, s.rep.noticeLostFlag]

/-- Every change flag cleared, as the take of a STATUS does (R178). -/
def State.clearFlags (s : State) : State :=
  { s with
    chans := Vector.ofFn fun c => { s.chans[c] with faultChanged := false }
    press := { s.press with flagChanged := false }
    dropFlag := false
    rep := { s.rep with noticeLostFlag := false } }

/-- The line of column `col` among `nc` columns (R120). -/
def lineOf (mode : SectorMode) (nc col : Nat) : Nat :=
  match mode with
  | .block => col * 4 / nc
  | .paired => 2 * (col * 2 / nc) + col % 2
  | .quad => col % 4

/-- Does line n's set hold an ACTIVE cell (R120, R121)? Cell i lies in column i mod NC. -/
def ActMap.lineActive (m : ActMap) (nc : Nat) (n : Fin 4) : Bool :=
  m.cells.zipIdx.any fun p => decide (p.1.level = .active) && decide (lineOf m.mode nc (p.2 % nc) = n.val)

/-- The number of columns, 0 while the geometry flag is NONE (R86). -/
def Locator.columns (l : Locator) : Nat := (l.geom.map (·.nc)).getD 0

/-- The outputs AL0 to AL3: enable on, an ACTIVE cell in the set, acknowledgement clear (R121). -/
def State.lines (s : State) : Vector Bool 4 :=
  Vector.ofFn fun n => s.map.lineOn[n] && !s.map.ack[n] && s.map.lineActive s.loc.columns n

/-- The output HOLDQ (R123). -/
def State.holdq (s : State) : Bool := s.map.latch

/-- The receiver has claimed a slot for the frame it assembles (R170). -/
def Link.assembling (l : Link) : Bool :=
  match l.rx with
  | .frame got => !got.isEmpty
  | _ => false

/-- The output PRDY: not in reset and not both slots READY (R170). -/
def State.prdy (s : State) : Bool := !s.inReset && decide (s.link.ready.length < Config.slotCap)

/-- The pulser output PLSn, driven at the tick of its pulse with the pulse's level (R29, R136, log 24). -/
def State.pulserDrive (s : State) (n : Chan) : Option Nat :=
  match s.chk.check with
  | none => none
  | some ck =>
    match ck.pulse with
    | none => none
    | some p => if p.pulser = n ∧ p.t0 = s.tick then some p.level else none

end Sys2Proof.Machine
end

