-- ==== Sys2Proof/Machine/Layout.lean ====
section
/-!
DEFINITION. The layouts of chapter 11: enumeration codes (11.2), data records (11.5), notices (11.6), map cell and
zone entries (11.7), and the frames that carry them.
-/

namespace Sys2Proof.Machine

/-! ### Enumeration codes (11.2) -/

def Result.code : Result → Nat
  | .done => 0
  | .clamped => 1
  | .state => 2
  | .range => 3
  | .busy => 4
  | .format => 5
  | .unknown => 6

def RunState.code : RunState → Nat
  | .idle => 0
  | .armed => 1
  | .freezing => 2
  | .frozen => 3

def Phase.code : Phase → Nat
  | .ramp => 0
  | .hold => 1
  | .reload => 2
  | .unload => 3

def RangeFlag.code : RangeFlag → Nat
  | .valid => 0
  | .over => 1
  | .under => 2

def ChState.code : ChState → Nat
  | .off => 0
  | .settling => 1
  | .quiet => 2
  | .hit _ => 3
  | .lockout _ => 4
  | .testing => 5
  | .fault => 6

def Role.code : Role → Nat
  | .locate => 0
  | .guard => 1
  | .monitor => 2

def ThrMode.code : ThrMode → Nat
  | .fixed => 0
  | .floating => 1

def LaneStatus.code : LaneStatus → Nat
  | .good => 0
  | .lost => 1

/-- An undecided event never reaches a record (R80); it shares UNLOCATED's code. -/
def EventState.code : EventState → Nat
  | .located => 0
  | .noFit => 1
  | .excluded _ => 2
  | .unlocated _ => 3
  | .guarded => 4
  | .undecided => 3

def EventState.reasonCode : EventState → Nat
  | .unlocated .noGeometry => 1
  | .unlocated .tooFew => 2
  | .unlocated .queueFull => 3
  | _ => 0

def LoneReason.code : LoneReason → Nat
  | .lockout => 1
  | .monitor => 2
  | .repeated => 3
  | .full => 4
  | .single => 5
  | .guard => 6

def CellLevel.code : CellLevel → Nat
  | .clear => 0
  | .watch => 1
  | .active => 2

def Detail.code : Detail → Nat
  | .full => 0
  | .events => 1
  | .summary => 2

def Policy.code : Policy → Nat
  | .reportOnly => 0
  | .excludePoor => 1

def CheckKind.code : CheckKind → Nat
  | .short => 1
  | .long => 2
  | .pattern => 3

def freezeCode : Option FreezeReason → Nat
  | none => 0
  | some .stop => 1
  | some (.rupture _) => 2
  | some .timeLimit => 3

def RuptureTest.code : RuptureTest → Nat
  | .clip => 1
  | .drop => 2

/-- The rupture test that fired, 0 where the reason is not RUPTURE (R151). -/
def testCode : Option FreezeReason → Nat
  | some (.rupture t) => t.code
  | _ => 0

def RunCause.code : RunCause → Nat
  | .arm => 1
  | .armResume => 2
  | .stop => 3
  | .rupture => 4
  | .timeLimit => 5
  | .drain => 6
  | .resetRun => 7
  | .fullReset => 8

def RxError.code : RxError → Nat
  | .framing => 1
  | .overrun => 2
  | .crc => 3
  | .length => 4
  | .truncated => 5
  | .brk => 6

/-- Receiver state at an error: HUNT 0, SYNC 1, FRAME 2; no error arises in BREAK and RESET (R171). -/
def RxState.code : RxState → Nat
  | .hunt => 0
  | .sync => 1
  | .frame _ => 2
  | .brk => 0
  | .reset => 0

def AbortReason.code : AbortReason → Nat
  | .phase => 1
  | .request => 2
  | .run => 3

/-- Adoption, 0 for SHORT (11.6). -/
def adoptionCode : Option Adoption → Nat
  | none => 0
  | some .adopted => 1
  | some .notAsked => 2
  | some .notIdle => 3
  | some .tooFew => 4

def BaseAction.code : BaseAction → Nat
  | .kept => 0
  | .filled => 1
  | .rebased => 2

/-! ### Data records (11.5) -/

/-- Rise to tags, common to HIT records and member entries. -/
def hitFields (r : HitRec) : List Byte :=
  be 2 r.rise ++ be 4 r.duration ++ be 2 r.counts ++ be 1 r.amplitude ++ be 4 r.energy
    ++ be 3 r.stamp.pressure ++ be 1 r.stamp.phase.code ++ be 1 r.stamp.holdIndex ++ be 1 r.tags

/-- HIT record, type 01h. -/
def hitRecordBytes (r : HitRec) (why : LoneReason) : List Byte :=
  be 1 1 ++ be 2 30 ++ be 1 r.channel.val ++ be 6 r.arrival ++ hitFields r ++ be 1 why.code

/-- Member entry of an EVENT record. -/
def memberBytes (m : Member) : List Byte :=
  be 1 m.record.channel.val ++ be 6 m.record.arrival ++ hitFields m.record ++ be 2 m.delta

/-- Location part; the zone byte is FFh where no zone is named. -/
def locBytes (l : LocPart) : List Byte :=
  be 1 l.col ++ be 1 l.row ++ be 2 l.index ++ be 4 l.residual ++ be 4 l.mean ++ be 1 l.quality
    ++ be 1 l.edge.toNat ++ be 1 ((l.zone.map (·.val)).getD 255)

/-- The record length of an EVENT record: 23 + 28 × member count, plus 15 with a location part (R192). -/
def EventRec.recordLength (e : EventRec) : Nat :=
  23 + 28 * e.members.length + (if e.loc.isSome then 15 else 0)

/-- EVENT record, type 02h. -/
def eventRecordBytes (e : EventRec) : List Byte :=
  be 1 2 ++ be 2 e.recordLength ++ be 4 e.number ++ be 1 e.state.code ++ be 1 e.state.reasonCode
    ++ be 1 e.firstChannel.val ++ be 6 e.first ++ be 3 e.pressure ++ be 1 e.phase.code ++ be 1 e.holdIndex
    ++ be 1 e.tags ++ be 1 e.members.length ++ e.members.flatMap memberBytes
    ++ (match e.loc with
        | none => []
        | some l => locBytes l)

/-- A data record as it stands in a DATA frame. -/
def DataRec.bytes : DataRec → List Byte
  | .hit r why => hitRecordBytes r why
  | .event e => eventRecordBytes e

/-- The record length (R192): 30 for a HIT record. -/
def DataRec.recordLength : DataRec → Nat
  | .hit _ _ => 30
  | .event e => e.recordLength

/-! ### Notices (11.6) -/

def runDetailBytes : RunDetail → List Byte
  | .plain => []
  | .clip count rw ch counted => be 1 1 ++ be 1 count ++ be 2 rw ++ be 1 ch.val ++ be 2 (maskOf counted)
  | .drop pPrev pFilt d => be 1 2 ++ be 3 pPrev ++ be 3 pFilt ++ be 2 d
  | .drain freeze ended entered dropped lone numbered located lastEvent =>
    be 1 (freezeCode freeze) ++ be 1 (testCode freeze) ++ be 4 ended ++ be 4 entered ++ be 4 dropped
      ++ be 4 lone ++ be 4 numbered ++ be 4 located ++ be 4 lastEvent

/-- An outcome entry of a PATTERN check, 16 bytes. -/
def outcomeBytes : Option PatOutcome → List Byte
  | none => be 16 0
  | some (.hit index rise duration counts energy amplitude clipped long) =>
    be 1 1 ++ be 1 index ++ be 2 rise ++ be 4 duration ++ be 2 counts ++ be 4 energy ++ be 1 amplitude
      ++ be 1 (flagBits [clipped, long])
  | some .silent => be 1 2 ++ be 15 0
  | some .lost => be 1 3 ++ be 15 0

def checkDetailBytes : CheckDetail → List Byte
  | .aborted _ => []
  | .pairs pulses measured responses degraded valid estimate adoption base verdicts changed =>
    be 1 pulses ++ be 2 measured ++ be 2 responses ++ be 2 degraded ++ be 2 valid ++ be 2 (estimate.getD 0)
      ++ be 1 (adoptionCode adoption) ++ be 1 base.code ++ be 4 (packVerdicts verdicts) ++ be 2 (maskOf changed)
  | .pattern slot outcomes => be 1 slot.val ++ allChans.flatMap fun c => outcomeBytes outcomes[c]

/-- Outcome and reason of a CHECK RESULT: COMPLETE 0, ABORTED 1. -/
def CheckDetail.outcomeCodes : CheckDetail → Nat × Nat
  | .aborted r => (1, r.code)
  | .pairs .. => (0, 0)
  | .pattern .. => (0, 0)

def levelBytes (l : Levels) : List Byte := be 2 l.hitList ++ be 1 l.locQueue ++ be 2 l.data ++ be 1 l.notices

def noticePayload : Notice → List Byte
  | .cluster number col row index old new se sh sr pressure phase pMax line outputs holdq =>
    be 4 number ++ be 1 col ++ be 1 row ++ be 2 index ++ be 1 old.code ++ be 1 new.code ++ be 4 se ++ be 4 sh
      ++ be 4 sr ++ be 3 pressure ++ be 1 phase.code ++ be 3 pMax ++ be 1 line.val
      ++ be 1 (outputByte outputs holdq)
  | .phaseChange tick old new pFilt pMax holdIndex =>
    be 1 0 ++ be 6 tick ++ be 1 old.code ++ be 1 new.code ++ be 3 pFilt ++ be 3 pMax ++ be 1 holdIndex
  | .phaseOnset arrival pOn ratio pMax phase holdIndex channel =>
    be 1 1 ++ be 6 arrival ++ be 3 pOn ++ be 2 ratio ++ be 3 pMax ++ be 1 phase.code ++ be 1 holdIndex
      ++ be 1 channel.val
  | .faultRange tick old new code =>
    be 1 0 ++ be 1 0 ++ be 6 tick ++ be 1 old.code ++ be 1 new.code ++ be 2 code.toNat
  | .faultLost tick channel count =>
    be 1 1 ++ be 1 1 ++ be 6 tick ++ be 1 channel.val ++ be 1 count ++ be 2 0
  | .faultRecovered tick channel count =>
    be 1 1 ++ be 1 2 ++ be 6 tick ++ be 1 channel.val ++ be 1 count ++ be 2 0
  | .faultCoupling tick channel old new =>
    be 1 1 ++ be 1 3 ++ be 6 tick ++ be 1 channel.val ++ be 1 old.code ++ be 1 new.code ++ be 1 0
  | .run cause after before tick eventNo detail =>
    be 1 cause.code ++ be 1 after.code ++ be 1 before.code ++ be 6 tick ++ be 4 eventNo ++ runDetailBytes detail
  | .checkResult kind start finish runAtTake detail =>
    be 1 kind.code ++ be 1 detail.outcomeCodes.1 ++ be 1 detail.outcomeCodes.2 ++ be 6 start ++ be 6 finish
      ++ be 1 runAtTake.code ++ checkDetailBytes detail
  | .linkError code counter rx => be 1 code.code ++ be 2 counter ++ be 1 rx.code
  | .summary tick run level hits numbered located levels pFilt phase noticesLost eventsLost hitsLost =>
    be 6 tick ++ be 1 run.code ++ be 1 level.code
      ++ allChans.flatMap (fun c => be 4 hits[c].ended ++ be 4 hits[c].lone ++ be 4 hits[c].dropped)
      ++ be 4 numbered ++ be 4 located ++ levelBytes levels ++ be 3 pFilt ++ be 1 phase.code
      ++ be 4 noticesLost ++ be 4 eventsLost ++ be 4 hitsLost

/-- The frame kind that names a notice (11.2). -/
def noticeKind : Notice → Byte
  | .cluster .. => 0x50#8
  | .phaseChange .. => 0x51#8
  | .phaseOnset .. => 0x51#8
  | .faultRange .. => 0x52#8
  | .faultLost .. => 0x52#8
  | .faultRecovered .. => 0x52#8
  | .faultCoupling .. => 0x52#8
  | .run .. => 0x53#8
  | .checkResult .. => 0x54#8
  | .linkError .. => 0x55#8
  | .summary .. => 0x56#8

/-! ### Frames (R167, R174, R187, R188) -/

/-- A notice frame, tag 00h. -/
def noticeFrame (n : Notice) : List Byte := frameBytes (noticeKind n) 0 (noticePayload n)

/-- A REPLY frame with the request's tag: the kind answered, the result, the data (R174). -/
def replyFrame (r : Reply) : List Byte := frameBytes 0x40#8 r.tag (r.kind :: be 1 r.result.code ++ r.data)

/-- A DATA frame: its records end to end (R192). -/
def dataFrame (qs : List Queued) : List Byte := frameBytes 0x41#8 0 (qs.flatMap fun q => q.record.bytes)

/-! ### Map cell and zone entries (11.7) -/

/-- A map cell entry; none is an OUTSIDE position, whose state byte is FFh (R128, 11.7; DEDUCED, log 33). -/
def cellBytes (col row : Nat) (at' : Option (Nat × Cell)) : List Byte :=
  match at' with
  | none => be 1 col ++ be 1 row ++ be 19 0 ++ be 1 255
  | some (index, x) =>
    be 1 col ++ be 1 row ++ be 2 index ++ be 2 x.events ++ be 2 x.hold ++ be 2 x.reload ++ be 4 x.energy
      ++ be 1 x.amp ++ be 6 x.last ++ be 1 x.level.code

def zoneBytes (z : ZoneCount) : List Byte := be 2 z.events ++ be 2 z.hold ++ be 2 z.reload

end Sys2Proof.Machine
end

