-- ==== Sys2Proof/Machine/Magnitude.lean ====
section
/-!
DEFINITION. The integer arithmetic shared by the blocks (00_scope.md, "Arithmetic" and "The magnitude table"):
magnitudes and amplitude codes, clamping and saturation, absolute difference, the exact integer square root.
-/

namespace Sys2Proof.Machine

/-- M(0) to M(90) of the magnitude table. -/
def magTable : List Nat :=
  [1, 2, 2, 2, 2, 2, 2, 3, 3, 3, 4, 4, 4]
    ++ [5, 6, 6, 7, 8, 8, 9, 10, 12, 13, 15, 16, 18]
    ++ [20, 23, 26, 29, 32, 36, 40, 45, 51, 57, 64, 71, 80]
    ++ [90, 100, 113, 126, 142, 159, 178, 200, 224, 252, 282, 317, 355]
    ++ [399, 447, 502, 563, 631, 708, 795, 892, 1000, 1123, 1259, 1413, 1585]
    ++ [1779, 1996, 2239, 2512, 2819, 3163, 3549, 3982, 4467, 5012, 5624, 6310, 7080]
    ++ [7944, 8913, 10000, 11221, 12590, 14126, 15849, 17783, 19953, 22388, 25119, 28184, 31623]

/-- M(n), for codes 0 to 90. -/
def bigM (n : Nat) : Nat := magTable.getD n 0

/-- The largest code up to `n` whose magnitude is at most x; 0 if there is none. -/
def codeUpTo (x : Nat) : Nat → Nat
  | 0 => 0
  | n + 1 => if bigM (n + 1) ≤ x then n + 1 else codeUpTo x n

/-- The amplitude code of a magnitude: the largest n up to 90 with x ≥ M(n), 0 for x = 0. -/
def ampCode (x : Nat) : Nat := codeUpTo x 90

/-- The magnitude of a sample; that of −32768 is 32768 (R30). -/
def magnitude (s : Sample) : Nat := s.toInt.natAbs

/-- A clipped sample: −32768 or +32767 (R34). -/
def isClipped (s : Sample) : Bool := s == 0x8000#16 || s == 0x7FFF#16

/-- |a − b| on natural numbers. -/
def absDiff (a b : Nat) : Nat := (a - b) + (b - a)

/-- The nearer end of a range for a value outside it. -/
def clampTo (lo hi v : Nat) : Nat := max lo (min hi v)

/-- a + b, saturating at `cap`. -/
def satAdd (cap a b : Nat) : Nat := min cap (a + b)

/-- One bit of the square root at a time, from bit b − 1 down to bit 0. -/
def isqrtBits (n : Nat) : Nat → Nat → Nat
  | 0, r => r
  | b + 1, r => isqrtBits n b (if (r + 2 ^ b) * (r + 2 ^ b) ≤ n then r + 2 ^ b else r)

/-- The exact integer square root: the largest integer whose square does not exceed n. -/
def isqrt (n : Nat) : Nat := isqrtBits n (n.log2 / 2 + 1) 0

/-- A deadline measured on the tick counter has been reached by a unit that takes one sample a tick: the counter
is past it, or stands at it and the sample of that tick has been taken (R35, R36, R38, R137). -/
def passed (tick : Nat) (seen : Bool) (deadline : Nat) : Bool :=
  decide (deadline < tick) || (decide (deadline = tick) && seen)

end Sys2Proof.Machine
end

