-- ==== Sys2Proof/Machine/Reporting.lean ====
section
/-!
DEFINITION. The report unit's operations (10): queueing a notice, handing over a data record, placing a reply, the
detail level, the transmit arbiter. Each takes the run state and the tick as they stand and changes the report unit
alone. The arbiter chooses at once when a notice is queued, a record added or a reply placed (R187, log 18).
-/

namespace Sys2Proof.Machine

/-- One level less detail; SUMMARY is the least (R184). -/
def Detail.down : Detail → Detail
  | .full => .events
  | .events => .summary
  | .summary => .summary

/-- One level more detail; FULL is the most (R184). -/
def Detail.up : Detail → Detail
  | .full => .full
  | .events => .full
  | .summary => .events

/-- Less detail than: FULL is code 0 and has the most detail (R184, 11.2). -/
def Detail.below (a b : Detail) : Bool := decide (b.code < a.code)

/-- The oldest record joined at least the age limit ago (R188). -/
def Report.aged (tick : Nat) (r : Report) : Bool :=
  match r.data.head? with
  | none => false
  | some q => decide (q.joined + Config.ticksPerMs * r.age ≤ tick)

/-- The batch condition (R188); false in IDLE, which the rule does not list (DEDUCED, log 23). -/
def Report.batchReady (run : RunState) (tick : Nat) (r : Report) : Bool :=
  match run with
  | .idle => false
  | .armed => !r.data.isEmpty && (decide (r.trigger ≤ r.data.length) || r.aged tick)
  | .freezing => !r.data.isEmpty
  | .frozen => !r.data.isEmpty

/-- The records of one data frame and the rest: at most `n` records in at most `room` bytes (R188). -/
def takeData : Nat → Nat → List Queued → List Queued × List Queued
  | 0, _, qs => ([], qs)
  | _ + 1, _, [] => ([], [])
  | n + 1, room, q :: qs =>
    if q.record.recordLength ≤ room then
      ((q :: (takeData n (room - q.record.recordLength) qs).1), (takeData n (room - q.record.recordLength) qs).2)
    else ([], q :: qs)

/-- The level test at a removal (R184). -/
def Report.stepUp (r : Report) : Report :=
  if r.data.length ≤ r.low ∧ r.level.below r.ceiling then { r with level := r.level.up } else r

/-- The level test at an addition or a loss (R184). -/
def Report.stepDown (r : Report) : Report :=
  if r.high ≤ r.data.length then { r with level := r.level.down } else r

/-- A data frame starts: its records leave as one removal, then the level test (R184, R188). -/
def Report.sendData (r : Report) : Report :=
  Report.stepUp
    { r with
      data := (takeData Config.dataPerFrame Config.payloadMax r.data).2
      tx := some (dataFrame (takeData Config.dataPerFrame Config.payloadMax r.data).1) }

/-- The arbiter's choice, made while the transmitter is IDLE and HRDY asserted: the reply, else the oldest notice,
else a data frame (R187). -/
def Report.choose (run : RunState) (tick : Nat) (r : Report) : Report :=
  if r.tx.isSome || !r.hrdy then r
  else
    match r.reply with
    | some p => { r with reply := none, tx := some (replyFrame p) }
    | none =>
      match r.notices with
      | n :: rest => { r with notices := rest, tx := some (noticeFrame n) }
      | [] => if r.batchReady run tick then r.sendData else r

/-- A notice is queued: it joins the tail, or is lost and counted if 16 are held (R181). -/
def Report.notify (run : RunState) (tick : Nat) (n : Notice) (r : Report) : Report :=
  if r.notices.length < Config.noticeCap then
    Report.choose run tick { r with notices := r.notices ++ [n] }
  else
    { r with noticesLost := satAdd Config.sat32 r.noticesLost 1, noticeLostFlag := true }

/-- Is the record added at this detail level (R183)? -/
def Detail.admits : Detail → DataRec → Bool
  | .full, _ => true
  | .events, .event _ => true
  | .events, .hit _ _ => false
  | .summary, _ => false

/-- The lost counter of a record lost to a full data queue (R182). -/
def Report.lose (rec : DataRec) (r : Report) : Report :=
  match rec with
  | .hit _ _ => { r with hitsLost := satAdd Config.sat32 r.hitsLost 1 }
  | .event _ => { r with eventsLost := satAdd Config.sat32 r.eventsLost 1 }

/-- A producer hands over a record: withheld, added or lost (R182, R183, R184). -/
def Report.handOver (run : RunState) (tick : Nat) (rec : DataRec) (r : Report) : Report :=
  if r.level.admits rec then
    if r.data.length < Config.dataCap then
      Report.choose run tick
        ({ r with data := r.data ++ [{ record := rec, joined := tick }] } : Report).stepDown
    else (r.lose rec).stepDown
  else r

/-- The handler places its one reply (R173, R180). -/
def Report.placeReply (run : RunState) (tick : Nat) (p : Reply) (r : Report) : Report :=
  Report.choose run tick { r with reply := some p }

end Sys2Proof.Machine
end

