-- ==== Sys2Proof/Machine/Ops.lean ====
section
/-!
DEFINITION. The named operations the meanings share: reading and writing a channel, queueing notices and records,
the pressure stamp, a hit in progress, the hit list with its horizon and drop range, the claims of a check, and the
entry to FREEZING.
-/

namespace Sys2Proof.Machine

/-! ### Channels -/

/-- Channel c. -/
def State.ch (s : State) (c : Chan) : Channel := s.chans[c]

/-- Channel c replaced. -/
def State.setCh (s : State) (c : Chan) (x : Channel) : State := { s with chans := s.chans.set c x }

/-- Channel c changed by f. -/
def State.modCh (s : State) (c : Chan) (f : Channel → Channel) : State := s.setCh c (f (s.ch c))

/-- Every channel changed by f. -/
def State.mapCh (s : State) (f : Chan → Channel → Channel) : State :=
  { s with chans := Vector.ofFn fun c => f c s.chans[c] }

/-! ### Notices and records -/

/-- A block queues a notice (R181). -/
def State.notify (s : State) (n : Notice) : State := { s with rep := s.rep.notify s.ctl.run s.tick n }

/-- A producer hands a record to the report unit (R183). -/
def State.report (s : State) (r : DataRec) : State := { s with rep := s.rep.handOver s.ctl.run s.tick r }

/-- The queue levels that STATUS and SUMMARY give (R177). -/
def State.levels (s : State) : Levels where
  hitList := s.hitList.length
  locQueue := s.loc.queue.length
  data := s.rep.data.length
  notices := s.rep.notices.length

/-! ### Pressure -/

/-- Pmax − B, taken as 0 where B exceeds Pmax (R9). -/
def Pressure.floorLevel (p : Pressure) : Nat := p.pMax - p.band

/-- The stamp the monitor offers (R13), formed from the registers as they stand (log 26). After a PRESSURE SET in FROZEN
has lowered B, it can carry BELOW_MAX after an ARM RESUME while the below-max span is closed (R13, R14; DESIGN CHOICE,
log 44). -/
def Pressure.stamp (p : Pressure) : Stamp where
  pressure := p.pFilt
  phase := p.phase
  holdIndex := p.holdIndex
  belowMax := decide (p.pFilt < p.floorLevel)
  stale := decide (p.flag = .under) || p.awaiting

/-- A hit of channel c opened with this stamp at this arrival is counted towards the onset (R15). -/
def State.countOnset (s : State) (c : Chan) (arrival : Nat) (st : Stamp) : State :=
  if s.press.spanOpen && !s.press.spanMarked && st.belowMax && !st.stale then
    if s.press.onsetCount ≤ s.press.spanCount + 1 then
      if s.press.pMax = 0 then
        { s with press := { s.press with spanCount := s.press.spanCount + 1, spanMarked := true } }
      else
        State.notify
          { s with
            press :=
              { s.press with
                spanCount := s.press.spanCount + 1
                spanMarked := true
                onsetRatio := some (1000 * st.pressure / s.press.pMax) } }
          (.phaseOnset arrival st.pressure (1000 * st.pressure / s.press.pMax) s.press.pMax st.phase st.holdIndex c)
    else { s with press := { s.press with spanCount := s.press.spanCount + 1 } }
  else s

/-! ### Thresholds and hits of a channel -/

/-- A threshold code is applied (R25). -/
def Channel.applyThr (x : Channel) (code : Nat) : Channel :=
  match x.cfg.mode with
  | .fixed => { x with cfg := { x.cfg with thrCode := code }, thr := code }
  | .floating => { x with cfg := { x.cfg with thrCode := code }, thr := max x.thr code }

/-- A pending threshold is applied and cleared (R25). -/
def Channel.applyPending (x : Channel) : Channel :=
  match x.pendingThr with
  | none => x
  | some code => { x.applyThr code with pendingThr := none }

/-- The count test: |s| at least M(thr), the previous sample below it (R30). -/
def isCount (thr prev mag : Nat) : Bool := decide (bigM thr ≤ mag) && decide (prev < bigM thr)

/-- A hit opened at tick t (R31). -/
def Hit.opened (t mag : Nat) (clip : Bool) (st : Stamp) : Hit where
  arrival := t
  stamp := st
  lastCount := t
  counts := 1
  peak := mag
  peakTick := t
  peakFixed := false
  running := mag * mag
  energySum := mag * mag
  clipped := clip

/-- Is the peak fixed at tick t: it was, or more than PDT ticks have passed (R32)? -/
def Hit.fixedAt (h : Hit) (pdt t : Nat) : Bool := h.peakFixed || decide (h.peakTick + pdt < t)

/-- A sample in HIT: the peak test, then the sums and counts (R32, R33), then the clipped flag (R34). -/
def Hit.sample (h : Hit) (pdt t mag : Nat) (count clip : Bool) : Hit :=
  { h with
    peakFixed := h.fixedAt pdt t
    peak := if !h.fixedAt pdt t && decide (h.peak < mag) then mag else h.peak
    peakTick := if !h.fixedAt pdt t && decide (h.peak < mag) then t else h.peakTick
    running := h.running + mag * mag
    counts := if count then h.counts + 1 else h.counts
    lastCount := if count then t else h.lastCount
    energySum := if count then h.running + mag * mag else h.energySum
    clipped := h.clipped || clip }

/-- The tick d at which the normal end is decided (R35). -/
def Hit.normalAt (h : Hit) (cfg : ChanCfg) : Nat := h.lastCount + cfg.hdt

/-- The tick at which the maximum duration is reached (R36). -/
def Hit.forcedAt (h : Hit) (cfg : ChanCfg) : Nat := h.arrival + cfg.maxDur

/-- The normal end has been met, and no earlier than the forced end would have come (R35, R36). -/
def Hit.normalDue (h : Hit) (cfg : ChanCfg) (tick : Nat) (seen : Bool) : Bool :=
  passed tick seen (h.normalAt cfg) && decide (h.normalAt cfg ≤ h.forcedAt cfg)

/-- The forced end has been met before a normal end (R36). -/
def Hit.forcedDue (h : Hit) (cfg : ChanCfg) (tick : Nat) (seen : Bool) : Bool :=
  passed tick seen (h.forcedAt cfg) && decide (h.forcedAt cfg < h.normalAt cfg)

/-- The energy of an ended hit (R33). -/
def Hit.energy (h : Hit) : Nat := min Config.sat32 (h.energySum / 65536)

/-- The amplitude of an ended hit (R39). -/
def Hit.amplitude (h : Hit) (cfg : ChanCfg) : Nat := clampTo 0 127 (ampCode h.peak + cfg.refOffset)

/-- The hit record of an ended hit (R35, R39). -/
def Hit.record (h : Hit) (c : Chan) (cfg : ChanCfg) (long cut : Bool) : HitRec where
  channel := c
  arrival := h.arrival
  rise := min Config.sat16 (h.peakTick - h.arrival)
  duration := h.lastCount - h.arrival
  counts := min Config.sat16 h.counts
  amplitude := h.amplitude cfg
  energy := h.energy
  stamp := h.stamp
  clipped := h.clipped
  long := long
  cut := cut

/-! ### The hit list (03) -/

/-- The order of the list: arrival, then channel (R44). -/
def HitRec.before (a b : HitRec) : Bool :=
  decide (a.arrival < b.arrival) || (decide (a.arrival = b.arrival) && decide (a.channel.val < b.channel.val))

/-- A record placed behind every entry before it and ahead of the rest (R47). -/
def insertEntry (e : Entry) : List Entry → List Entry
  | [] => [e]
  | x :: xs => if x.record.before e.record then x :: insertEntry e xs else e :: x :: xs

/-- The arrival a channel holds the horizon at (R50). -/
def Channel.holdsAt (x : Channel) : Option Nat :=
  match x.state with
  | .hit h => some h.arrival
  | _ => none

/-- Some channel has a hit in progress. -/
def State.anyHit (s : State) : Bool := allChans.any fun c => (s.ch c).holdsAt.isSome

/-- The horizon is bounded in ARMED, and in FREEZING until the cut hits of the entry have been offered (R50, R55,
R156). -/
def State.bounded (s : State) : Bool :=
  match s.ctl.run with
  | .armed => true
  | .freezing => s.anyHit || !s.offers.isEmpty
  | _ => false

/-- The least arrival of the hits in progress, from the tick (R50). -/
def State.heldBack (s : State) : Nat :=
  allChans.foldl (fun m c => match (s.ch c).holdsAt with
    | none => m
    | some a => min m a) s.tick

/-- The horizon: none is unbounded (R50, R55). An offer that waits holds it as its hit did (log 34). -/
def State.horizon (s : State) : Option Nat :=
  if s.bounded then some (s.offers.foldl (fun m r => min m r.arrival) s.heldBack) else none

/-- An arrival strictly before the horizon is settled (R52). -/
def State.settled (s : State) (arrival : Nat) : Bool :=
  match s.horizon with
  | none => true
  | some h => decide (arrival < h)

/-- The first entry not yet taken, if it is settled: the first SETTLED, waiting entry (R46, R53). -/
def State.firstWaiting (s : State) : Option Entry :=
  match s.hitList.find? (fun e => !e.taken) with
  | none => none
  | some e => if s.settled e.record.arrival then some e else none

/-- The drop range extended to a dropped arrival (R57). -/
def extendDrop (a : Nat) : Option DropRange → DropRange
  | none => ⟨a, some a⟩
  | some r => ⟨min r.low a, r.high.map (max a)⟩

/-- The drop range takes the open span of a check (R58). -/
def openSpan (start : Nat) : Option DropRange → DropRange
  | none => ⟨start, none⟩
  | some r => ⟨min r.low start, none⟩

/-- The check span ends: an open high end becomes the release tick (R58). -/
def closeSpan (t : Nat) : Option DropRange → Option DropRange
  | none => none
  | some r => some ⟨r.low, some (r.high.getD t)⟩

/-- Does the window [f, windowEnd] meet the drop range (R59)? -/
def meetsDrop (f windowEnd : Nat) : Option DropRange → Bool
  | none => false
  | some r =>
    decide (r.low ≤ windowEnd) && (match r.high with
      | none => true
      | some h => decide (f ≤ h))

/-- The range after the position has moved: emptied once past high + W (R60). -/
def clearDrop (position w : Nat) : Option DropRange → Option DropRange
  | none => none
  | some r =>
    match r.high with
    | none => some r
    | some h => if h + w < position then none else some r

/-- The list takes an offer: entered in order, or dropped if the list is full (R39, R47, R49). -/
def State.offer (s : State) (r : HitRec) : State :=
  if s.hitList.length < Config.listCap then
    { s with hitList := insertEntry ⟨r, false⟩ s.hitList }.modCh r.channel fun x =>
      { x with ended := satAdd Config.sat32 x.ended 1, entered := satAdd Config.sat32 x.entered 1 }
  else
    { s with dropRange := some (extendDrop r.arrival s.dropRange), dropFlag := true }.modCh r.channel fun x =>
      { x with ended := satAdd Config.sat32 x.ended 1, dropped := satAdd Config.sat32 x.dropped 1 }

/-! ### Offers of one sample, in ascending channel order (R48, log 34) -/

/-- A channel can still offer a hit at this sample: by an end, a lane loss or a freeze, of a hit in progress or of one
that its sample, not yet come, may open (R31, R35 to R37). -/
def Channel.mayOffer (x : Channel) : Bool :=
  match x.state with
  | .off => false
  | .fault => false
  | .hit _ => true
  | _ => !x.frameSeen

/-- How many channels below c have an offer waiting at this sample, or can still make one. -/
def State.lowerOffers (s : State) (c : Chan) : Nat :=
  (allChans.filter fun b =>
    decide (b < c) && ((s.ch b).mayOffer || s.offers.any fun r => decide (r.channel = b))).length

/-- The list can take an offer of channel c now: no lower-numbered channel can still offer at this sample, or the list
has places for each of them and for c, so that all enter in any order (R48). In FREEZING the cuts are offered all
together. -/
def State.offersNow (s : State) (c : Chan) : Bool :=
  decide (s.ctl.run ≠ .freezing) &&
    (decide (s.lowerOffers c = 0) || decide (s.hitList.length + s.lowerOffers c < Config.listCap))

/-- An offer placed among those that wait, in channel order (R48). -/
def insertOffer (r : HitRec) : List HitRec → List HitRec
  | [] => [r]
  | x :: xs => if x.channel ≤ r.channel then x :: insertOffer r xs else r :: x :: xs

/-- A channel offers an ended hit: the list takes it at once where that keeps the channel order, and else it waits for
the close of the sample (R39, R48, log 34). -/
def State.offerInTurn (s : State) (r : HitRec) : State :=
  if s.offersNow r.channel then s.offer r else { s with offers := insertOffer r s.offers }

/-- The list takes the offers that wait, the lowest channel first (R48). -/
def State.takeOffers (s : State) : State := s.offers.foldl State.offer { s with offers := [] }

/-! ### Checks: claims, removal, release, abort (07) -/

/-- Channel c belongs to the check in progress: involved and not removed (R134, R138). -/
def Check.owns (ck : Check) (c : Chan) : Bool := ck.involved[c] && !ck.removed[c]

/-- A running check claims channel c (R28). -/
def State.claimed (s : State) (c : Chan) : Bool :=
  match s.chk.check with
  | none => false
  | some ck => ck.owns c

/-- A check in progress stays as it is: outside ARMED, while the tick counter holds at its maximum (R2, R136). The hold
begins with the sample period in which the counter reaches it (DESIGN CHOICE, log 42). -/
def State.checkHeld (s : State) : Bool := decide (Config.tickMax ≤ s.tick) && decide (s.ctl.run ≠ .armed)

/-- The check in progress, if it can advance now (R2, R136). -/
def State.movingCheck (s : State) : Option Check := if s.checkHeld then none else s.chk.check

/-- A channel returns to QUIET, or enters TESTING if a check has claimed it and it has not recovered from FAULT since; a
pending threshold is applied (R20, R25, R28, R38). -/
def State.toQuiet (s : State) (c : Chan) : State :=
  s.modCh c fun x => { x.applyPending with state := if s.claimed c && !x.leftCheck then .testing else .quiet }

/-- A lost channel is removed from the check; its PATTERN outcome is LOST (R138, R146, log 16). -/
def Check.remove (ck : Check) (c : Chan) : Check :=
  { ck with
    removed := ck.removed.set c true
    replay := ck.replay.set c { ck.replay[c] with outcome := some .lost } }

/-- The check unit is told of the loss of a channel's lane; a check that is held stays as it is (R2, R138; DESIGN
CHOICE, log 42). -/
def State.removeFromCheck (s : State) (c : Chan) : State :=
  match s.movingCheck with
  | none => s
  | some ck => if ck.owns c then { s with chk := { s.chk with check := some (ck.remove c) } } else s

/-- The involved channels in TESTING return to QUIET, and the check unit to READY (R147, R148). The claim of a
channel still waiting ends with the check (log 30). Whether the channel's own sample of that tick is still ignored in
TESTING or already tested in QUIET, the queue's order of the command that ends the check and LANE_SAMPLE decides (R28,
R147, R148; DESIGN CHOICE, log 43). -/
def State.releaseCheck (s : State) (ck : Check) : State :=
  State.mapCh { s with chk := { s.chk with check := none } } fun c x =>
    if ck.involved[c] && decide (x.state = .testing) then { x with state := .quiet } else x

/-- The hit list is told the release tick of a check that began in ARMED (R58, R139). -/
def State.endSpan (s : State) (ck : Check) : State :=
  if ck.startRun = .armed then { s with dropRange := closeSpan s.tick s.dropRange } else s

/-- A check in progress is aborted with a notice (R148). -/
def State.abortCheck (s : State) (why : AbortReason) : State :=
  match s.chk.check with
  | none => s
  | some ck =>
    ((s.releaseCheck ck).endSpan ck).notify (.checkResult ck.kind ck.startTick s.tick ck.startRun (.aborted why))

/-! ### The freeze (08) -/

/-- A hit in progress is cut; an end that its own tests have met at this sample is taken instead (R37, log 15). -/
def State.cutHit (s : State) (c : Chan) (h : Hit) : State :=
  let x := s.ch c
  let normal := h.normalDue x.cfg s.tick x.frameSeen
  let forced := h.forcedDue x.cfg s.tick x.frameSeen
  s.offerInTurn (h.record c x.cfg forced (!normal && !forced))

/-- The cut of a freeze in one channel: its hit is offered, and it enters QUIET (R37, R156). -/
def State.cutCh (s : State) (c : Chan) : State :=
  match (s.ch c).state with
  | .hit h => (s.cutHit c h).modCh c fun x => { x.applyPending with state := .quiet }
  | _ => s

/-- The cuts of a freeze in these channels (R37, R156). -/
def State.cutAll (s : State) (cs : List Chan) : State := cs.foldl State.cutCh s

/-- In FREEZING the cut hits are offered, in ascending channel order, once no hit is left to be cut (R48, R55; DESIGN
CHOICE, log 34). -/
def State.finishCuts (s : State) : State := if s.ctl.run = .freezing ∧ s.anyHit = false then s.takeOffers else s

/-- In FREEZING the hits still in progress are cut (R55). -/
def State.lastCuts (s : State) : State := if s.ctl.run = .freezing then s.cutAll allChans else s

/-- The channels that have taken their sample of this tick. -/
def State.seen (s : State) : List Chan := allChans.filter fun c => (s.ch c).frameSeen

/-- A lockout ends at the entry to FREEZING (R38, R156). -/
def Channel.unlock (x : Channel) : Channel :=
  match x.state with
  | .lockout _ => { x.applyPending with state := .quiet }
  | _ => x

/-- The run state and the freeze reason at entry to FREEZING (R151, R156). -/
def State.setFreeze (s : State) (why : FreezeReason) : State :=
  { s with ctl := { s.ctl with run := .freezing, freeze := some why } }

/-- Entry to FREEZING but for the cuts: lockouts end, the RUN notice, the abort of a check (R156). -/
def State.setFreezing (s : State) (why : FreezeReason) (cause : RunCause) (detail : RunDetail) : State :=
  (((s.setFreeze why).mapCh fun _ x => x.unlock).notify
      (.run cause .freezing s.ctl.run s.tick s.assoc.eventNo detail)).abortCheck .run

/-- Entry to FREEZING: hits are cut at once in the channels that have taken their sample of this tick, and in the others
at that sample, the last that belongs to their hit (R34, R37, R156, R157; DESIGN CHOICE, logs 34 and 40). -/
def State.enterFreezing (s : State) (why : FreezeReason) (cause : RunCause) (detail : RunDetail) : State :=
  ((s.setFreezing why cause detail).cutAll s.seen).finishCuts

/-- The channels whose last clip onset lies in the rupture window (R157). -/
def RunCtl.recentClips (k : RunCtl) (t : Nat) : Vector Bool 16 :=
  Vector.ofFn fun c => match k.clipTicks[c] with
    | none => false
    | some u => decide (t - k.rw ≤ u)

/-- How many channels a set holds. -/
def countSet (v : Vector Bool 16) : Nat := (allChans.filter fun c => v[c]).length

/-- The channel's last clip-onset tick becomes the current one (R157, first step). -/
def State.recordClip (s : State) (c : Chan) : State :=
  { s with ctl := { s.ctl with clipTicks := s.ctl.clipTicks.set c (some s.tick) } }

/-- The channels counted at an onset of channel c, itself among them (R157, second step). -/
def State.clipCounted (s : State) (c : Chan) : Vector Bool 16 := (s.recordClip c).ctl.recentClips s.tick

/-- A clip onset of channel c reported to the rupture detector (R34, R157). -/
def State.clipOnset (s : State) (c : Chan) : State :=
  match s.ctl.run with
  | .armed =>
    if s.ctl.rc ≠ 0 ∧ s.ctl.rc ≤ countSet (s.clipCounted c) then
      (s.recordClip c).enterFreezing (.rupture .clip) .rupture
        (.clip (countSet (s.clipCounted c)) s.ctl.rw c (s.clipCounted c))
    else s.recordClip c
  | _ => s

/-- The drop test on a pair of filtered values (R158). -/
def State.dropTest (s : State) (pPrev pFilt : Nat) : State :=
  if s.ctl.run = .armed ∧ s.ctl.d ≠ 0 ∧ s.ctl.d ≤ pPrev - pFilt then
    s.enterFreezing (.rupture .drop) .rupture (.drop pPrev pFilt s.ctl.d)
  else s

/-! ### Running a meaning -/

/-- A step of the part that is held while a full reset lasts (R163): the meaning of every command but the reset's own
and the HRDY pin (log 32). A condition that is not met leaves the state as it stands (log 1). -/
def live (f : State → State) (s : State) : Host.Outcome State Fault Refusal :=
  .next (if s.inReset then s else f s)

end Sys2Proof.Machine
end

