-- ==== Sys2Proof/Machine/Operands.lean ====
section
/-!
DEFINITION. The operands of the requests: how the request handler takes a READY frame and places its one reply
(R173 to R175), the kinds of 11.3, the tests and clampings the requests share, and the payload forms whose length
depends on the payload (CHANNEL SET).
-/

namespace Sys2Proof.Machine

/-! ### The take (R173) -/

/-- What a request's own rule answers: the state after it, the result, the reply data (R174). -/
abbrev Answer := State × Result × List Byte

/-- The frame the handler takes for this row: the older READY frame, if the reply slot is empty and the frame is one
of the row's (R173, log 5). -/
def State.request (s : State) (isRow : Frame → Bool) : Option Frame :=
  match s.rep.reply with
  | some _ => none
  | none =>
    match s.link.ready with
    | [] => none
    | f :: _ => if isRow f then some f else none

/-- The slot of the frame taken becomes EMPTY (R170, R173). -/
def State.freeSlot (s : State) : State := { s with link := { s.link with ready := s.link.ready.tail } }

/-- The one reply, with the request's tag and kind, is placed in the reply slot (R173, R174). -/
def State.answer (s : State) (f : Frame) (r : Result) (data : List Byte) : State :=
  { s with rep := s.rep.placeReply s.ctl.run s.tick ⟨f.tag, f.kind, r, data⟩ }

/-- The whole take of a request row: free the slot, act by the owning rule, reply (R173). -/
def State.handle (isRow : Frame → Bool) (act : List Byte → State → Answer) (s : State) : State :=
  match s.request isRow with
  | none => s
  | some f => (act f.payload s.freeSlot).1.answer f (act f.payload s.freeSlot).2.1 (act f.payload s.freeSlot).2.2

/-! ### Request kinds (11.3) and rows of one kind (log 5) -/

/-- A frame of this kind. -/
def kindIs (k : Byte) (f : Frame) : Bool := f.kind == k

/-- A frame of this kind whose first payload byte is `b`. -/
def kindHead (k b : Byte) (f : Frame) : Bool := f.kind == k && f.payload.head? == some b

/-- A frame of this kind whose payload is `b` alone. -/
def kindOnly (k b : Byte) (f : Frame) : Bool := f.kind == k && f.payload == [b]

/-- Is the kind a request kind, 01h to 18h (R174, 11.2)? -/
def isRequestKind (f : Frame) : Bool := decide (1 ≤ f.kind.toNat) && decide (f.kind.toNat ≤ 0x18)

/-! ### Shared tests and clamping (R175) -/

/-- A refused request changes nothing and carries no data (R174, R175). -/
def refuse (s : State) (r : Result) : Answer := (s, r, [])

/-- BUSY in FREEZING and STATE in ARMED: the test of the configuration requests (R161, R175). -/
def State.configTest (s : State) : Option Result :=
  match s.ctl.run with
  | .freezing => some .busy
  | .armed => some .state
  | .idle => none
  | .frozen => none

/-- Is a numeric value outside its range (R175)? -/
def outside (lo hi v : Nat) : Bool := decide (v < lo) || decide (hi < v)

/-- CLAMPED if any value was clamped, DONE otherwise (R174). -/
def doneOr (clamped : Bool) : Result := if clamped then .clamped else .done

/-- A request without a payload (R175): its rule is asked only when the payload is empty. -/
def noPayload (act : State → Answer) (payload : List Byte) (s : State) : Answer :=
  match payload with
  | [] => act s
  | _ :: _ => refuse s .format

/-! ### Structural codes (11.2); none is a code outside the field's values -/

def onOff (b : Nat) : Option Bool :=
  match b with
  | 0 => some false
  | 1 => some true
  | _ => none

def roleOf (b : Nat) : Option Role :=
  match b with
  | 0 => some .locate
  | 1 => some .guard
  | 2 => some .monitor
  | _ => none

def modeOf (b : Nat) : Option ThrMode :=
  match b with
  | 0 => some .fixed
  | 1 => some .floating
  | _ => none

def sectorOf (b : Nat) : Option SectorMode :=
  match b with
  | 0 => some .block
  | 1 => some .paired
  | 2 => some .quad
  | _ => none

def detailOf (b : Nat) : Option Detail :=
  match b with
  | 0 => some .full
  | 1 => some .events
  | 2 => some .summary
  | _ => none

def policyOf (b : Nat) : Option Policy :=
  match b with
  | 0 => some .reportOnly
  | 1 => some .excludePoor
  | _ => none

/-! ### CHANNEL SET's items (R21, 11.3) -/

/-- Widths of the eleven items, in the order of the configuration table. -/
def itemWidths : List Nat := [1, 1, 1, 1, 1, 1, 2, 2, 2, 3, 1]

/-- Bytes that the items selected from bit i on take. -/
def itemsLength (sel : Nat) : Nat → List Nat → Nat
  | _, [] => 0
  | i, w :: ws => (if sel.testBit i then w else 0) + itemsLength sel (i + 1) ws

/-- The items selected from bit i on, none for an item not carried. -/
def itemsOf (sel : Nat) : Nat → List Nat → List Byte → List (Option Nat)
  | _, [], _ => []
  | i, w :: ws, bs =>
    if sel.testBit i then some (beNat (bs.take w)) :: itemsOf sel (i + 1) ws (bs.drop w)
    else none :: itemsOf sel (i + 1) ws bs

/-- The items a CHANNEL SET carries, as carried. -/
structure ChanItems where
  enable : Option Nat
  role : Option Nat
  mode : Option Nat
  thrCode : Option Nat
  margin : Option Nat
  refOffset : Option Nat
  pdt : Option Nat
  hdt : Option Nat
  hlt : Option Nat
  maxDur : Option Nat
  pulserLevel : Option Nat
  deriving DecidableEq, Repr

/-- The items of a payload after its mask and selection fields. -/
def chanItems (sel : Nat) (bs : List Byte) : ChanItems :=
  let l := itemsOf sel 0 itemWidths bs
  { enable := l.getD 0 none, role := l.getD 1 none, mode := l.getD 2 none, thrCode := l.getD 3 none
    margin := l.getD 4 none, refOffset := l.getD 5 none, pdt := l.getD 6 none, hdt := l.getD 7 none
    hlt := l.getD 8 none, maxDur := l.getD 9 none, pulserLevel := l.getD 10 none }

/-- A carried item is in its set of codes, or not carried. -/
def codeOk {α : Type} (f : Nat → Option α) : Option Nat → Bool
  | none => true
  | some v => (f v).isSome

/-- A carried numeric item lies outside its range. -/
def itemOutside (lo hi : Nat) : Option Nat → Bool
  | none => false
  | some v => outside lo hi v

/-- A carried numeric item, clamped; the old value where none is carried. -/
def itemOr (lo hi old : Nat) : Option Nat → Nat
  | none => old
  | some v => clampTo lo hi v

/-! ### Rectangles of cells (R92, R94) -/

/-- The rectangle of a WINDOW SET or ZONE SET, spans clamped into an nc × nr grid. -/
def fitRect (nc nr col colSpan row rowSpan : Nat) : Rect where
  col := col
  colSpan := clampTo 1 nc colSpan
  row := row
  rowSpan := clampTo 1 (nr - row) rowSpan

/-- Was a span clamped? -/
def spanClamped (nc nr colSpan row rowSpan : Nat) : Bool := outside 1 nc colSpan || outside 1 (nr - row) rowSpan

end Sys2Proof.Machine
end

