-- ==== Sys2Proof/Machine/Geometry.lean ====
section
/-!
DEFINITION. The geometry of the shell (05): cell centres, shell distance, travel time, the cells of a rectangle,
border cells and exclusion zones. The locator and the check unit share it.
-/

namespace Sys2Proof.Machine

/-- The centre of the cell in column j and row i (R89). -/
def Geometry.centre (g : Geometry) (j i : Nat) : Pos where
  s := (2 * j + 1) * g.circ / (2 * g.nc)
  z := (2 * i + 1) * g.len / (2 * g.nr)

/-- The shorter way round the circumference (R91, step 1). -/
def wrapDelta (circ a b : Nat) : Nat := if circ - absDiff a b < absDiff a b then circ - absDiff a b else absDiff a b

/-- The shell distance (R91). -/
def Geometry.dist (g : Geometry) (a b : Pos) : Nat :=
  isqrt (wrapDelta g.circ a.s b.s * wrapDelta g.circ a.s b.s + absDiff a.z b.z * absDiff a.z b.z)

/-- The travel time over a distance at velocity v, in ticks (R96). -/
def travel (v d : Nat) : Nat := (d * 5000 + v / 2) / v

/-- The cells of a rectangle in visiting order: rows upward, columns onward and wrapped (R93). -/
def Geometry.cellsOf (g : Geometry) (r : Rect) : List (Nat × Nat) :=
  (List.range r.rowSpan).flatMap fun i =>
    (List.range r.colSpan).map fun j => ((r.col + j) % g.nc, r.row + i)

/-- Is the cell a border cell of the rectangle (R93)? -/
def Geometry.border (g : Geometry) (r : Rect) (col row : Nat) : Bool :=
  decide (row = r.row) || decide (row = r.row + r.rowSpan - 1)
    || (decide (r.colSpan ≠ g.nc)
      && (decide (col = r.col % g.nc) || decide (col = (r.col + r.colSpan - 1) % g.nc)))

/-- Does the cell lie in the rectangle; columns wrap, rows do not (R93, R95)? -/
def Geometry.covers (g : Geometry) (r : Rect) (col row : Nat) : Bool :=
  decide (r.row ≤ row) && decide (row < r.row + r.rowSpan)
    && (List.range r.colSpan).any fun j => decide ((r.col + j) % g.nc = col)

/-- The lowest-numbered enabled zone in which the cell lies (R95). -/
def Geometry.exclusion (g : Geometry) (col row : Nat) : Option (Fin 8) :=
  ([0, 1, 2, 3, 4, 5, 6, 7] : List (Fin 8)).find? fun n => (g.zones[n]).on && g.covers (g.zones[n]).rect col row

/-- The whole grid as a rectangle (R87). -/
def wholeGrid (nc nr : Nat) : Rect where
  col := 0
  colSpan := nc
  row := 0
  rowSpan := nr

/-- A geometry just loaded: nothing placed, every window the whole grid, every zone disabled (R87). -/
def Geometry.fresh (circ len nc nr : Nat) : Geometry where
  circ := circ
  len := len
  nc := nc
  nr := nr
  pos := Vector.replicate 16 none
  win := Vector.replicate 16 (wholeGrid nc nr)
  zones := Vector.replicate 8 ⟨false, wholeGrid nc nr⟩

/-- The position of a channel's sensor; none is unplaced or no geometry (R86, R90). -/
def Locator.position (l : Locator) (c : Chan) : Option Pos :=
  match l.geom with
  | none => none
  | some g => g.pos[c]

/-- A channel is placed (R78, R90). -/
def Locator.placed (l : Locator) (c : Chan) : Bool := (l.position c).isSome

end Sys2Proof.Machine
end

