-- ==== Sys2Proof/Machine/Map.lean ====
section
/-!
DEFINITION. The activity map (06): accumulation, neighbourhood sums and cell states, zone table, sector lines and hold
request, CLUSTER SET, ALARM CLEAR, MAP CLEAR, MAP READ and ZONE READ.
-/

namespace Sys2Proof.Machine

/-! ### Accumulation and evaluation (R113 to R116) -/

/-- The record of cell i. -/
def ActMap.cell (m : ActMap) (i : Nat) : Cell := m.cells.getD i Cell.cleared

/-- The sum of the energies of an event's members (R113). -/
def EventRec.energySum (e : EventRec) : Nat := (e.members.map fun m => m.record.energy).sum

/-- The largest amplitude among an event's members, or the old value (R113). -/
def EventRec.ampMax (e : EventRec) (old : Nat) : Nat := e.members.foldl (fun a m => max a m.record.amplitude) old

/-- A cell record with one more LOCATED event (R113). -/
def Cell.add (x : Cell) (e : EventRec) : Cell :=
  { x with
    events := satAdd Config.sat16 x.events 1
    hold := if e.phase = .hold then satAdd Config.sat16 x.hold 1 else x.hold
    reload := if e.belowMax then satAdd Config.sat16 x.reload 1 else x.reload
    energy := satAdd Config.sat32 x.energy e.energySum
    amp := e.ampMax x.amp
    last := e.first }

/-- The indices of a cell's neighbourhood: columns wrap, rows stop at the ends (R114). -/
def neighbourhood (nc nr col row : Nat) : List Nat :=
  ([row - 1, row, row + 1].dedup.filter fun i => decide (i < nr)).flatMap fun i =>
    [(col + nc - 1) % nc, col, (col + 1) % nc].map fun j => i * nc + j

/-- A sum over a neighbourhood (R114). -/
def ActMap.sumOver (m : ActMap) (is : List Nat) (f : Cell → Nat) : Nat := (is.map fun i => f (m.cell i)).sum

/-- The state evaluated from the three sums (R115). -/
def ActMap.evaluate (m : ActMap) (se sh sr : Nat) : CellLevel :=
  if (0 < m.ah ∧ m.ah ≤ sh) ∨ (0 < m.ar ∧ m.ar ≤ sr) then .active
  else if 0 < m.we ∧ m.we ≤ se then .watch
  else .clear

/-- The higher of two cell states: CLEAR, WATCH, ACTIVE (R115). -/
def CellLevel.higher (a b : CellLevel) : CellLevel := if a.code < b.code then b else a

/-- The line of a column (R120). -/
def ActMap.lineFor (m : ActMap) (nc col : Nat) : Fin 4 := Fin.ofNat 4 (lineOf m.mode nc col)

/-- What a rise to ACTIVE does to acknowledgements and latch (R121, R123). -/
def ActMap.rise (m : ActMap) (line : Fin 4) (new : CellLevel) : ActMap :=
  match new with
  | .active => { m with ack := m.ack.set line false, latch := m.latch || m.holdOn }
  | _ => m

/-- The receiving cell's record changed. -/
def ActMap.setCell (m : ActMap) (i : Nat) (x : Cell) : ActMap := { m with cells := m.cells.set i x }

/-- The map after an event has landed in cell (col, row): accumulation, evaluation, and the effects of a rise
(R113 to R116, R121, R123). -/
def ActMap.land (m : ActMap) (nc nr : Nat) (e : EventRec) (col row : Nat) : ActMap :=
  let i := row * nc + col
  let m1 := m.setCell i ((m.cell i).add e)
  let ns := neighbourhood nc nr col row
  let old := (m1.cell i).level
  let new := old.higher
    (m1.evaluate (m1.sumOver ns (·.events)) (m1.sumOver ns (·.hold)) (m1.sumOver ns (·.reload)))
  if new = old then m1
  else (m1.setCell i { m1.cell i with level := new }).rise (m.lineFor nc col) new

/-- A LOCATED event reaches the map; a rise queues a CLUSTER notice with the outputs as they stand after it
(R113, R116). -/
def State.accumulate (s : State) (nc nr : Nat) (e : EventRec) (p : LocPart) : State :=
  let s1 := { s with map := s.map.land nc nr e p.col p.row }
  let i := p.row * nc + p.col
  let ns := neighbourhood nc nr p.col p.row
  if (s1.map.cell i).level = (s.map.cell i).level then s1
  else
    s1.notify
      (.cluster e.number p.col p.row i (s.map.cell i).level (s1.map.cell i).level
        (s1.map.sumOver ns (·.events)) (s1.map.sumOver ns (·.hold)) (s1.map.sumOver ns (·.reload))
        e.pressure e.phase s.press.pMax (s.map.lineFor nc p.col) s1.lines s1.holdq)

/-! ### The zone table (R119) -/

/-- A zone table entry with one more numbered event (R119). -/
def ZoneCount.add (z : ZoneCount) (e : EventRec) : ZoneCount where
  events := satAdd Config.sat16 z.events 1
  hold := if e.phase = .hold then satAdd Config.sat16 z.hold 1 else z.hold
  reload := if e.belowMax then satAdd Config.sat16 z.reload 1 else z.reload

/-- An event counted against its first channel (R119). -/
def ActMap.countZone (m : ActMap) (e : EventRec) : ActMap :=
  { m with zones := m.zones.set e.firstChannel ((m.zones[e.firstChannel]).add e) }

/-! ### Clears (R112, R122, R125) -/

/-- Every record and zone entry cleared, acknowledgements and latch clear; the grid has n cells (R112, R125). -/
def ActMap.clearTo (m : ActMap) (n : Nat) : ActMap :=
  { m with
    cells := List.replicate n Cell.cleared
    zones := Vector.replicate 16 ⟨0, 0, 0⟩
    ack := Vector.replicate 4 false
    latch := false }

/-- MAP CLEAR and the clears with the same effect keep the grid (R125). -/
def ActMap.clear (m : ActMap) : ActMap := m.clearTo m.cells.length

/-- The rule of ALARM CLEAR (R122). -/
def alarmClearRule (payload : List Byte) (s : State) : Answer :=
  noPayload
    (fun s => ({ s with map := { s.map with ack := Vector.replicate 4 true, latch := false } }, .done, [])) payload s

/-- The rule of MAP CLEAR (R125). -/
def mapClearRule (payload : List Byte) (s : State) : Answer :=
  noPayload
    (fun s =>
      match s.ctl.run with
      | .freezing => refuse s .busy
      | _ => ({ s with map := s.map.clear }, .done, [])) payload s

/-! ### CLUSTER SET (R117, R118) -/

/-- CLUSTER SET after the FORMAT test (R117, R118). -/
def clusterStore (we ah ar mode lines hold : Nat) (s : State) : Answer :=
  match sectorOf mode, onOff hold with
  | some md, some h =>
    ({ s with
        map :=
          { s.map with
            we := we
            ah := ah
            ar := ar
            mode := md
            lineOn := Vector.ofFn fun n => lines.testBit n.val
            holdOn := h
            latch := s.map.latch && h } },
      .done, [])
  | _, _ => refuse s .range

/-- The rule of CLUSTER SET: its numeric fields cannot carry a value outside its range (R117, R175, 11.3). -/
def clusterSetRule (payload : List Byte) (s : State) : Answer :=
  match payload with
  | [w1, w0, h1, h0, r1, r0, mode, lines, hold] =>
    clusterStore (nat16 w1 w0) (nat16 h1 h0) (nat16 r1 r0) mode.toNat lines.toNat hold.toNat s
  | _ => refuse s .format

/-! ### Reads (R128, R129) -/

/-- The record at a position of the grid; none is OUTSIDE (R128). -/
def State.cellAt (s : State) (col row : Nat) : Option (Nat × Cell) :=
  match s.loc.geom with
  | none => none
  | some g => if col < g.nc ∧ row < g.nr then some (row * g.nc + col, s.map.cell (row * g.nc + col)) else none

/-- The entries of a MAP READ, by rows, then columns, without wrap (R128). -/
def State.mapEntries (s : State) (col nCols row nRows : Nat) : List Byte :=
  (List.range nRows).flatMap fun i =>
    (List.range nCols).flatMap fun j => cellBytes (col + j) (row + i) (s.cellAt (col + j) (row + i))

/-- The rule of MAP READ (R128, 11.4). -/
def mapReadRule (payload : List Byte) (s : State) : Answer :=
  match payload with
  | [col, nCols, row, nRows] =>
    if nCols.toNat = 0 ∨ nRows.toNat = 0 ∨ 32 < nCols.toNat * nRows.toNat then refuse s .range
    else
      (s, .done, be 1 (nCols.toNat * nRows.toNat) ++ s.mapEntries col.toNat nCols.toNat row.toNat nRows.toNat)
  | _ => refuse s .format

/-- The rule of ZONE READ (R129, 11.4). -/
def zoneReadRule (payload : List Byte) (s : State) : Answer :=
  noPayload (fun s => (s, .done, allChans.flatMap fun c => zoneBytes s.map.zones[c])) payload s

/-! ### Meanings -/

def execClusterSet (s : State) : Host.Outcome State Fault Refusal :=
  live (State.handle (kindIs 0x0C#8) clusterSetRule) s

def execAlarmClear (s : State) : Host.Outcome State Fault Refusal :=
  live (State.handle (kindIs 0x11#8) alarmClearRule) s

def execMapClear (s : State) : Host.Outcome State Fault Refusal := live (State.handle (kindIs 0x12#8) mapClearRule) s

def execMapRead (s : State) : Host.Outcome State Fault Refusal := live (State.handle (kindIs 0x13#8) mapReadRule) s

def execZoneRead (s : State) : Host.Outcome State Fault Refusal := live (State.handle (kindIs 0x14#8) zoneReadRule) s

end Sys2Proof.Machine
end

