-- ==== Sys2Proof/Machine/Association.lean ====
section
/-!
DEFINITION. The associator (04): the decision on an entry handed over, the close of an event by the next entry or by
the horizon, numbering, tags and routing, lone releases, and ASSOCIATION SET.
-/

namespace Sys2Proof.Machine

/-! ### Members of the open event (R65) -/

/-- The taken entries: the members of the open event, in the order in which they joined (R46, R65). -/
def State.taken (s : State) : List HitRec := (s.hitList.filter (·.taken)).map (·.record)

/-- The members of an event with first arrival f, each with its delta (R65). -/
def membersOf (f : Nat) (rs : List HitRec) : List Member := rs.map fun r => ⟨r, r.arrival - f⟩

/-- The first waiting entry becomes SETTLED, taken (R46, R53). -/
def takeFirst : List Entry → List Entry
  | [] => []
  | e :: es => if e.taken then e :: takeFirst es else { e with taken := true } :: es

/-- The first waiting entry leaves the list (R54). -/
def dropFirst : List Entry → List Entry
  | [] => []
  | e :: es => if e.taken then e :: dropFirst es else es

/-! ### Lone hits (R73) -/

/-- A lone release: the channel's lone-hits counter and the HIT record (R73). -/
def State.lone (s : State) (r : HitRec) (why : LoneReason) : State :=
  (s.modCh r.channel fun x => { x with lone := satAdd Config.sat32 x.lone 1 }).report (.hit r why)

/-- The entry handed over leaves the list as a lone hit (R54, R73). -/
def State.releaseEntry (s : State) (r : HitRec) (why : LoneReason) : State :=
  State.lone { s with hitList := dropFirst s.hitList } r why

/-! ### The close of an event (R72 to R79) -/

/-- The event record of a close with first member `first` (R76, R80). -/
def eventOf (number : Nat) (o : OpenEvent) (range : Option DropRange) (state : EventState) (first : HitRec)
    (ms : List HitRec) : EventRec where
  number := number
  state := state
  firstChannel := first.channel
  first := o.first
  pressure := first.stamp.pressure
  phase := first.stamp.phase
  holdIndex := first.stamp.holdIndex
  gap := meetsDrop o.first o.windowEnd range
  clipped := ms.any (·.clipped)
  belowMax := first.stamp.belowMax
  stale := first.stamp.stale
  members := membersOf o.first ms
  loc := none

/-- How many members are on placed channels (R78). -/
def State.placedCount (s : State) (ms : List HitRec) : Nat := (ms.filter fun r => s.loc.placed r.channel).length

/-- Where an event that is not GUARDED goes; none is the locator queue (R78). -/
def State.route (s : State) (first : HitRec) (ms : List HitRec) : Option UnlocatedReason :=
  if s.loc.placed first.channel = false then some .noGeometry
  else if s.placedCount ms < 3 then some .tooFew
  else if Config.locQueueCap ≤ s.loc.queue.length then some .queueFull
  else none

/-- The number is taken, the lockout set and the event counted in the arming (R72, R75, R160). -/
def State.numberEvent (s : State) (o : OpenEvent) : State :=
  { s with
    assoc :=
      { s.assoc with
        lockoutUntil := o.windowEnd + s.assoc.el
        lastEvent := s.assoc.eventNo
        eventNo := satAdd Config.sat32 s.assoc.eventNo 1 }
    ctl := { s.ctl with numbered := satAdd Config.sat32 s.ctl.numbered 1 } }

/-- A numbered event that is not GUARDED: the zone table, then its route (R78). -/
def State.routeEvent (s : State) (e : EventRec) (first : HitRec) (ms : List HitRec) : State :=
  let s1 := { s with map := s.map.countZone e }
  match s.route first ms with
  | some why => s1.report (.event { e with state := .unlocated why })
  | none => { s1 with loc := { s1.loc with queue := s1.loc.queue ++ [e] } }

/-- A close with two or more members (R72, R75 to R79). -/
def State.closeEvent (s : State) (o : OpenEvent) (first : HitRec) (ms : List HitRec) : State :=
  let number := s.assoc.eventNo
  let s1 := s.numberEvent o
  if o.guarded then s1.report (.event (eventOf number o s.dropRange .guarded first ms))
  else s1.routeEvent (eventOf number o s.dropRange .undecided first ms) first ms

/-- The open event closes: its members leave the list, and it is an event or a lone hit (R54, R72 to R79). -/
def State.close (s : State) (o : OpenEvent) : State :=
  let ms := s.taken
  let s1 :=
    { s with
      hitList := s.hitList.filter fun e => !e.taken
      assoc := { s.assoc with openEvent := none } }
  match ms with
  | [] => s1
  | [r] => s1.lone r (if o.guarded then .guard else .single)
  | first :: _ :: _ => s1.closeEvent o first ms

/-! ### The decision on an entry (R66 to R69, R71) -/

/-- The associator's position moves, and the list compares it with the drop range (R60, R71). -/
def State.moveTo (s : State) (t : Nat) : State :=
  { s with
    assoc := { s.assoc with position := t }
    dropRange := clearDrop t s.assoc.w s.dropRange }

/-- An entry of this channel is barred (R67, R144). -/
def State.barred (s : State) (c : Chan) : Bool :=
  decide ((s.ch c).cfg.role = .monitor) ||
    (decide (s.chk.policy = .excludePoor) && decide (s.chk.verdicts[c] = .poor))

/-- The decision with no event open (R66). -/
def State.decideClosed (s : State) (r : HitRec) : State :=
  if r.arrival < s.assoc.lockoutUntil then s.releaseEntry r .lockout
  else if s.barred r.channel then s.releaseEntry r .monitor
  else
    { s with
      hitList := takeFirst s.hitList
      assoc :=
        { s.assoc with
          openEvent := some
            { first := r.arrival
              windowEnd := r.arrival + s.assoc.w
              guarded := decide ((s.ch r.channel).cfg.role = .guard) } } }

/-- The decision within the window of the open event (R68). -/
def State.decideOpen (s : State) (r : HitRec) : State :=
  if s.taken.any fun m => decide (m.channel = r.channel) then s.releaseEntry r .repeated
  else if Config.maxMembers ≤ s.taken.length then s.releaseEntry r .full
  else if s.barred r.channel then s.releaseEntry r .monitor
  else { s with hitList := takeFirst s.hitList }

/-- The decision on the entry handed over (R66, R68, R69). -/
def State.decideEntry (s : State) (r : HitRec) : State :=
  match s.assoc.openEvent with
  | none => s.decideClosed r
  | some o => if r.arrival ≤ o.windowEnd then s.decideOpen r else (s.close o).decideClosed r

/-- HAND_OVER: the first SETTLED, waiting entry is decided, and the position takes its arrival (R53, R71). -/
def State.handOver (s : State) : State :=
  match s.firstWaiting with
  | none => s
  | some e => (s.decideEntry e.record).moveTo e.record.arrival

/-- Has the horizon passed this tick (R70)? -/
def State.horizonPast (s : State) (t : Nat) : Bool :=
  match s.horizon with
  | none => true
  | some h => decide (t < h)

/-- CLOSE_BY_HORIZON: the horizon is past the window and no entry waits (R70, R71). -/
def State.closeByHorizon (s : State) : State :=
  match s.assoc.openEvent with
  | none => s
  | some o =>
    if s.firstWaiting.isNone && s.horizonPast o.windowEnd then (s.close o).moveTo o.windowEnd else s

/-! ### ASSOCIATION SET (R64) -/

/-- ASSOCIATION SET after the FORMAT test (R64). -/
def associationStore (w el rl : Nat) (s : State) : Answer :=
  match s.configTest with
  | some r => refuse s r
  | none =>
    ({ s with assoc := { s.assoc with w := clampTo 1 65535 w, el := el, rl := rl } }, doneOr (outside 1 65535 w), [])

/-- The rule of ASSOCIATION SET (R64, 11.3). -/
def associationSetRule (payload : List Byte) (s : State) : Answer :=
  match payload with
  | [w1, w0, e1, e0, r1, r0] => associationStore (nat16 w1 w0) (nat16 e1 e0) (nat16 r1 r0) s
  | _ => refuse s .format

/-! ### Meanings -/

def execHandOver (s : State) : Host.Outcome State Fault Refusal := live State.handOver s

def execCloseByHorizon (s : State) : Host.Outcome State Fault Refusal := live State.closeByHorizon s

def execAssociationSet (s : State) : Host.Outcome State Fault Refusal :=
  live (State.handle (kindIs 0x0B#8) associationSetRule) s

end Sys2Proof.Machine
end

