-- ==== Sys2Proof/Machine/Channel.lean ====
section
/-!
DEFINITION. The sensor channels (02): the lane and its health, hit detection and measurement, noise blocks and the
floating threshold, CHANNEL SET and CHANNEL GET.
-/

namespace Sys2Proof.Machine

/-! ### Noise blocks (R40, R41) -/

/-- The next sample is the first of a settling block (R27). -/
def Channel.beginSettling (x : Channel) : Channel :=
  { x with state := .settling, blockPos := 0, blockSum := 0, blockBad := false, settleDue := false }

/-- One sample period of the noise block; a missing frame is none (R18, R40). A channel in OFF or FAULT measures
none (logs 13 and 14). -/
def Channel.noiseFrame (x : Channel) (mag : Option Nat) : Channel :=
  match x.state with
  | .off => x
  | .fault => x
  | .settling =>
    { x with
      blockPos := x.blockPos + 1
      blockSum := x.blockSum + mag.getD 0
      blockBad := x.blockBad || mag.isNone
      settleDue := x.settleDue || decide (Config.blockLen ≤ x.blockPos + 1) }
  | .quiet =>
    { x with
      blockPos := x.blockPos + 1
      blockSum := x.blockSum + mag.getD 0
      blockBad := x.blockBad || mag.isNone }
  | .hit _ => { x with blockPos := x.blockPos + 1, blockBad := true }
  | .lockout _ => { x with blockPos := x.blockPos + 1, blockBad := true }
  | .testing => { x with blockPos := x.blockPos + 1, blockBad := true }

/-- The target of a floating threshold (R41). -/
def floatTarget (cfg : ChanCfg) (noise : Nat) : Nat := clampTo cfg.thrCode 90 (noise + cfg.margin)

/-- A floating threshold moves by at most 3 towards the target (R41). -/
def floatMove (thr target : Nat) : Nat :=
  if thr < target then thr + min Config.floatStep (target - thr)
  else thr - min Config.floatStep (thr - target)

/-- The noise code of a used block (R40). -/
def blockCode (sum : Nat) : Nat := ampCode (sum / Config.blockLen)

/-- A noise block ends: a used block gives the noise code and, in FLOATING, moves the threshold; the next block
begins (R40, R41). -/
def Channel.endBlock (x : Channel) : Channel :=
  let y : Channel :=
    if x.blockBad then x
    else
      { x with
        noiseCode := blockCode x.blockSum
        thr := match x.cfg.mode with
          | .fixed => x.thr
          | .floating => floatMove x.thr (floatTarget x.cfg (blockCode x.blockSum)) }
  { y with blockPos := 0, blockSum := 0, blockBad := false }

/-- NOISE_BLOCK_END of channel c, when its block has 4096 sample periods (R40). -/
def State.noiseBlockEnd (c : Chan) (s : State) : State :=
  if Config.blockLen ≤ (s.ch c).blockPos then s.modCh c Channel.endBlock else s

/-- SETTLING_COMPLETE of channel c (R27, R28). -/
def State.settlingComplete (c : Chan) (s : State) : State :=
  if (s.ch c).state = .settling ∧ (s.ch c).settleDue then
    (s.modCh c fun x => { x with settleDue := false }).toQuiet c
  else s

/-! ### The end of a hit (R32, R35, R36, R38) -/

/-- PEAK_FIXED of channel c (R32). -/
def State.peakFixed (c : Chan) (s : State) : State :=
  match (s.ch c).state with
  | .hit h => s.modCh c fun x => { x with state := .hit { h with peakFixed := h.fixedAt x.cfg.pdt s.tick } }
  | _ => s

/-- A hit ends at tick d by the normal or forced end: its record is offered; LOCKOUT through d + HLT, or no lockout
with HLT 0 (R38, R39). -/
def State.endHit (c : Chan) (h : Hit) (d : Nat) (long : Bool) (s : State) : State :=
  let cfg := (s.ch c).cfg
  let s1 := s.offerInTurn (h.record c cfg long false)
  if cfg.hlt = 0 then s1.toQuiet c
  else s1.modCh c fun x => { x with state := .lockout (d + cfg.hlt) }

/-- LOCKOUT_END of channel c (R38). -/
def State.lockoutEnd (c : Chan) (s : State) : State :=
  match (s.ch c).state with
  | .lockout till => if passed s.tick (s.ch c).frameSeen till then s.toQuiet c else s
  | _ => s

/-! ### Lane health (R18 to R20) -/

/-- A valid frame in the lane health values (R18). -/
def Channel.validFrame (x : Channel) : Channel :=
  { x with
    missingRun := 0
    goodRun := match x.lane with
      | .good => x.goodRun
      | .lost => min Config.recoverRun (x.goodRun + 1) }

/-- A missing frame in the lane health values; the run is held at 4 (R18, R19). -/
def Channel.missedFrame (x : Channel) : Channel :=
  { x with
    missingRun := min Config.lossRun (x.missingRun + 1)
    goodRun := match x.lane with
      | .good => x.goodRun
      | .lost => 0 }

/-- An enabled channel enters FAULT: pending threshold applied, fault count and change flag, FAULT notice LOST
(R19, R22). -/
def State.enterFault (c : Chan) (s : State) : State :=
  State.notify
    (s.modCh c fun x =>
      { x.applyPending with
        state := .fault
        faults := satAdd Config.sat8 x.faults 1
        faultChanged := true
        leftCheck := true })
    (.faultLost s.tick c (satAdd Config.sat8 (s.ch c).faults 1))

/-- The loss of channel c's GOOD lane, whose missing run has reached 4: an OFF channel changes its lane status alone; an
enabled one has its hit cut, leaves the check and enters FAULT (R19, R37, R138). -/
def State.loseLane (c : Chan) (s : State) : State :=
  let s1 := s.modCh c fun x => { x with lane := .lost, goodRun := 0 }
  match (s.ch c).state with
  | .off => s1
  | .hit h => ((s1.cutHit c h).removeFromCheck c).enterFault c
  | _ => (s1.removeFromCheck c).enterFault c

/-- The lane of a channel is to be declared LOST: its missing run has reached 4 (R19). -/
def Channel.lossDue (x : Channel) : Bool := decide (x.lane = .good) && decide (x.missingRun = Config.lossRun)

/-- Hits end by their own tests and by lane losses; in FREEZING a hit still in progress awaits its cut (R37, R55). -/
def State.hitsEnd (s : State) : Bool := decide (s.ctl.run ≠ .freezing)

/-- HIT_END of channel c (R35). -/
def State.hitEnd (c : Chan) (s : State) : State :=
  match (s.ch c).state with
  | .hit h =>
    if h.normalDue (s.ch c).cfg s.tick (s.ch c).frameSeen && s.hitsEnd then
      s.endHit c h (h.normalAt (s.ch c).cfg) false
    else s
  | _ => s

/-- FORCED_END of channel c (R36). -/
def State.forcedEnd (c : Chan) (s : State) : State :=
  match (s.ch c).state with
  | .hit h =>
    if h.forcedDue (s.ch c).cfg s.tick (s.ch c).frameSeen && s.hitsEnd then
      s.endHit c h (h.forcedAt (s.ch c).cfg) true
    else s
  | _ => s

/-- LANE_LOST of channel c, when the missing run of its GOOD lane has reached 4 (R19). -/
def State.laneLost (c : Chan) (s : State) : State :=
  if (s.ch c).lossDue then
    match (s.ch c).state with
    | .hit _ => if s.hitsEnd then s.loseLane c else s
    | _ => s.loseLane c
  else s

/-- LANE_RECOVERED of channel c, when the good run of its LOST lane has reached 64 (R20). -/
def State.laneRecovered (c : Chan) (s : State) : State :=
  if (s.ch c).lane = .lost ∧ (s.ch c).goodRun = Config.recoverRun then
    let s1 := s.modCh c fun x => { x with lane := .good, goodRun := 0 }
    if (s.ch c).state = .fault then
      State.notify (s1.modCh c fun x => { x.beginSettling with faultChanged := true })
        (.faultRecovered s.tick c (s.ch c).faults)
    else s1
  else s

/-- The steps of channel c that have fallen due at its samples, in this order (log 4). -/
def State.catchUp (c : Chan) (s : State) : State :=
  (((((((s.noiseBlockEnd c).settlingComplete c).hitEnd c).forcedEnd c).lockoutEnd c).laneLost c).laneRecovered c)

/-! ### The close of a sample period (log 34) -/

/-- No channel has a sample of this period still to take. -/
def State.allSeen (s : State) : State := s.mapCh fun _ x => { x with frameSeen := true }

/-- The sample period is over: no sample of it is awaited, every step that has fallen due at it is taken, and the list
takes the offers of it that wait (R48, R55, logs 4 and 34). -/
def State.closeSample (s : State) : State :=
  (allChans.foldl (fun u c => u.catchUp c) s.allSeen.lastCuts).takeOffers

/-! ### Frames of the lane (R18, R30 to R34, R137) -/

/-- A count in QUIET opens a hit: the stamp is copied, the onset counted, a clipped sample reported (R31, R34). The
ONSET notice goes before the RUN notice of a rupture found at the same sample (DESIGN CHOICE, log 35). -/
def State.openHit (c : Chan) (mag : Nat) (clip : Bool) (s : State) : State :=
  let s1 := s.modCh c fun x =>
    { x with state := .hit (Hit.opened s.tick mag clip s.press.stamp), blockBad := true }
  let s2 := s1.countOnset c s.tick s.press.stamp
  if clip then s2.clipOnset c else s2

/-- A sample of a hit in progress; its first clipped sample is reported (R32 to R34). -/
def State.sampleHit (c : Chan) (h : Hit) (mag : Nat) (count clip : Bool) (s : State) : State :=
  let s1 := s.modCh c fun x => { x with state := .hit (h.sample x.cfg.pdt s.tick mag count clip) }
  if clip && !h.clipped then s1.clipOnset c else s1

/-- Is channel c a listener of the pulse in its listening window at this tick (R134, R137)? -/
def Check.listens (ck : Check) (p : Pulse) (c : Chan) (tick : Nat) : Bool :=
  ck.running && p.windowOpen && ck.owns c && decide (c ≠ p.pulser)
    && decide (p.t0 < tick) && decide (tick ≤ p.t0 + ck.lw)

/-- A listener's response after one more sample: the first count gives the delay, the peak runs on (R137). -/
def Resp.sample (r : Option Resp) (t0 tick mag : Nat) (count : Bool) : Option Resp :=
  match r with
  | none => if count then some ⟨tick - t0, mag⟩ else none
  | some q => some { q with peak := max q.peak mag }

/-- A sample of a channel in TESTING: a response to the pulse, or ignored (R28, R137). A check that is held takes none
(R2; DESIGN CHOICE, log 42). -/
def State.sampleTesting (c : Chan) (mag : Nat) (count : Bool) (s : State) : State :=
  match s.movingCheck with
  | none => s
  | some ck =>
    match ck.pulse with
    | none => s
    | some p =>
      if ck.listens p c s.tick then
        { s with
          chk :=
            { s.chk with
              check := some
                { ck with
                  pulse := some { p with resp := p.resp.set c (Resp.sample p.resp[c] p.t0 s.tick mag count) } } } }
      else s

/-- A sample taken in HIT: the last of a hit that a freeze cuts (R37, R55). -/
def State.afterHitSample (c : Chan) (before : RunState) (s : State) : State :=
  if before = .freezing then (s.cutCh c).finishCuts else s

/-- A sample taken by channel c, after its due steps: lane health and noise, then what the state gives (R18, R30). In
FREEZING a hit takes its sample of the tick of entry, whose clip onset is ignored, and is cut (R37, R157). -/
def State.takeSample (c : Chan) (sample : Sample) (s : State) : State :=
  let x := s.ch c
  let mag := magnitude sample
  let count := isCount x.thr x.prevMag mag
  let s1 := s.modCh c fun y => { (y.validFrame).noiseFrame (some mag) with prevMag := mag, frameSeen := true }
  match x.state with
  | .quiet => if s.ctl.run = .armed ∧ count then s1.openHit c mag (isClipped sample) else s1
  | .hit h => (s1.sampleHit c h mag count (isClipped sample)).afterHitSample c s.ctl.run
  | .testing => s1.sampleTesting c mag count
  | _ => s1

/-- LANE_SAMPLE: one frame of a lane in a sample period (R18; logs 4 and 11). -/
def State.laneSample (c : Chan) (sample : Sample) (s : State) : State :=
  if (s.ch c).frameSeen then s else (s.catchUp c).takeSample c sample

/-- A missing frame taken by channel c, after its due steps (R18). -/
def State.takeMissing (c : Chan) (s : State) : State :=
  let s1 := s.modCh c fun y => { (y.missedFrame).noiseFrame none with prevMag := 0, frameSeen := true }
  match (s.ch c).state with
  | .hit _ => s1.afterHitSample c s.ctl.run
  | _ => s1

/-- MISSING_FRAME (R18; logs 4 and 11). -/
def State.missingFrame (c : Chan) (s : State) : State :=
  if (s.ch c).frameSeen then s else (s.catchUp c).takeMissing c

/-! ### CHANNEL SET (R21 to R25) -/

/-- An item other than threshold code, margin and offset is carried (R21). -/
def ChanItems.beyondArmed (i : ChanItems) : Bool :=
  i.enable.isSome || i.role.isSome || i.mode.isSome || i.pdt.isSome || i.hdt.isSome || i.hlt.isSome
    || i.maxDur.isSome || i.pulserLevel.isSome

/-- The structural items carried are among their values (R21). -/
def ChanItems.codesOk (i : ChanItems) : Bool := codeOk onOff i.enable && codeOk roleOf i.role && codeOk modeOf i.mode

/-- Some numeric item carried is outside its range (R21, 2.2). -/
def ChanItems.clamps (i : ChanItems) : Bool :=
  itemOutside 0 90 i.thrCode || itemOutside 0 40 i.margin || itemOutside 0 40 i.refOffset
    || itemOutside 1 65535 i.pdt || itemOutside 1 65535 i.hdt || itemOutside 0 65535 i.hlt
    || itemOutside 1 1048575 i.maxDur || itemOutside 1 4 i.pulserLevel

/-- The threshold code carried, by the state of the channel (R24). -/
def Channel.takeThr (x : Channel) (carried : Option Nat) : Channel :=
  match carried with
  | none => x
  | some v =>
    match x.state with
    | .hit _ => { x with pendingThr := some (clampTo 0 90 v) }
    | .lockout _ => { x with pendingThr := some (clampTo 0 90 v) }
    | _ => x.applyThr (clampTo 0 90 v)

/-- The threshold mode carried: a change sets the current threshold to the threshold code (R22). -/
def Channel.takeMode (x : Channel) (carried : Option Nat) : Channel :=
  match carried.bind modeOf with
  | none => x
  | some m => if m = x.cfg.mode then x else { x with cfg := { x.cfg with mode := m }, thr := x.cfg.thrCode }

/-- The other items that take effect at once (R22, R23). -/
def Channel.takeItems (x : Channel) (i : ChanItems) : Channel :=
  { x with
    cfg :=
      { x.cfg with
        role := (i.role.bind roleOf).getD x.cfg.role
        margin := itemOr 0 40 x.cfg.margin i.margin
        refOffset := itemOr 0 40 x.cfg.refOffset i.refOffset
        pdt := itemOr 1 65535 x.cfg.pdt i.pdt
        hdt := itemOr 1 65535 x.cfg.hdt i.hdt
        hlt := itemOr 0 65535 x.cfg.hlt i.hlt
        maxDur := itemOr 1 1048575 x.cfg.maxDur i.maxDur
        pulserLevel := itemOr 1 4 x.cfg.pulserLevel i.pulserLevel } }

/-- The enable carried; a disable abandons the noise block (R22, R40). -/
def State.takeEnable (c : Chan) (carried : Option Nat) (s : State) : State :=
  match carried.bind onOff with
  | none => s
  | some false => s.modCh c fun x =>
    { x with
      cfg := { x.cfg with enable := false }, state := .off, blockPos := 0, blockSum := 0, blockBad := false
      settleDue := false }
  | some true =>
    match (s.ch c).state with
    | .off =>
      let s1 := s.modCh c fun x => { x with cfg := { x.cfg with enable := true } }
      match (s.ch c).lane with
      | .good => s1.modCh c Channel.beginSettling
      | .lost => s1.enterFault c
    | _ => s

/-- What a taken CHANNEL SET does to one channel of its mask (R22 to R25). -/
def State.setChannel (i : ChanItems) (s : State) (c : Chan) : State :=
  State.takeEnable c i.enable (s.modCh c fun x => ((x.takeThr i.thrCode).takeMode i.mode).takeItems i)

/-- CHANNEL SET on a mask, after the FORMAT test (R21). The LOST notices of several channels go in ascending order
(DESIGN CHOICE, log 35). -/
def channelSetItems (mask : Vector Bool 16) (i : ChanItems) (s : State) : Answer :=
  if s.ctl.run = .freezing then refuse s .busy
  else if s.ctl.run = .armed ∧ i.beyondArmed then refuse s .state
  else if countSet mask = 0 ∨ i.codesOk = false then refuse s .range
  else if allChans.any (fun c => mask[c] && s.claimed c) then refuse s .busy
  else ((allChans.filter fun c => mask[c]).foldl (State.setChannel i) s, doneOr i.clamps, [])

/-- The rule of CHANNEL SET (R21). -/
def channelSetRule (payload : List Byte) (s : State) : Answer :=
  match payload with
  | m1 :: m0 :: i1 :: i0 :: rest =>
    if rest.length = itemsLength (nat16 i1 i0) 0 itemWidths then
      channelSetItems (maskSet (nat16 m1 m0)) (chanItems (nat16 i1 i0) rest) s
    else refuse s .format
  | _ => refuse s .format

/-! ### CHANNEL GET (R26) -/

/-- The eleven items as CHANNEL SET lays them out (11.4). -/
def ChanCfg.bytes (g : ChanCfg) : List Byte :=
  be 1 g.enable.toNat ++ be 1 g.role.code ++ be 1 g.mode.code ++ be 1 g.thrCode ++ be 1 g.margin ++ be 1 g.refOffset
    ++ be 2 g.pdt ++ be 2 g.hdt ++ be 2 g.hlt ++ be 3 g.maxDur ++ be 1 g.pulserLevel

/-- The reply data of CHANNEL GET (R26, 11.4). -/
def State.channelData (s : State) (c : Chan) : List Byte :=
  let x := s.ch c
  be 1 c.val ++ x.cfg.bytes ++ be 1 x.state.code ++ be 1 x.thr ++ be 1 (x.pendingThr.getD 255) ++ be 1 x.noiseCode
    ++ be 1 x.lane.code ++ be 1 (s.chk.verdicts[c]).code ++ be 4 x.ended ++ be 4 x.entered ++ be 4 x.dropped
    ++ be 4 x.lone ++ be 1 x.faults ++ be 6 (x.holdsAt.getD 0)

/-- The rule of CHANNEL GET (R26). -/
def channelGetRule (payload : List Byte) (s : State) : Answer :=
  match payload with
  | [b] => if h : b.toNat < 16 then (s, .done, s.channelData ⟨b.toNat, h⟩) else refuse s .range
  | _ => refuse s .format

/-! ### Meanings -/

def execLaneSample (c : Chan) (sample : Sample) (s : State) : Host.Outcome State Fault Refusal :=
  live (State.laneSample c sample) s

def execMissingFrame (c : Chan) (s : State) : Host.Outcome State Fault Refusal := live (State.missingFrame c) s

def execPeakFixed (c : Chan) (s : State) : Host.Outcome State Fault Refusal := live (State.peakFixed c) s

def execHitEnd (c : Chan) (s : State) : Host.Outcome State Fault Refusal := live (State.hitEnd c) s

def execForcedEnd (c : Chan) (s : State) : Host.Outcome State Fault Refusal := live (State.forcedEnd c) s

def execLockoutEnd (c : Chan) (s : State) : Host.Outcome State Fault Refusal := live (State.lockoutEnd c) s

def execLaneLost (c : Chan) (s : State) : Host.Outcome State Fault Refusal := live (State.laneLost c) s

def execLaneRecovered (c : Chan) (s : State) : Host.Outcome State Fault Refusal := live (State.laneRecovered c) s

def execSettlingComplete (c : Chan) (s : State) : Host.Outcome State Fault Refusal := live (State.settlingComplete c) s

def execNoiseBlockEnd (c : Chan) (s : State) : Host.Outcome State Fault Refusal := live (State.noiseBlockEnd c) s

def execChannelSet (s : State) : Host.Outcome State Fault Refusal := live (State.handle (kindIs 0x04#8) channelSetRule) s

def execChannelGet (s : State) : Host.Outcome State Fault Refusal := live (State.handle (kindIs 0x05#8) channelGetRule) s

end Sys2Proof.Machine
end

