-- ==== Sys2Proof/Machine/Check.lean ====
section
/-!
DEFINITION. The check unit (07): starting, gathering, pulsing and listening, pattern replay, completion with pair
velocities, baseline and verdicts, abort, PATTERN LOAD and BASELINE READ.
-/

namespace Sys2Proof.Machine

/-- The entry of the ordered pair (pulser, listener): ordered by pulser, then listener (R149). -/
def pairIndex (p l : Chan) : Fin 256 := ⟨16 * p.val + l.val, by omega⟩

/-- The listener of an entry. -/
def pairListener (i : Fin 256) : Chan := ⟨i.val % 16, by omega⟩

/-- The pulser of an entry. -/
def pairPulser (i : Fin 256) : Chan := ⟨i.val / 16, by omega⟩

/-- Entries 0 to 255 in order. -/
def allPairs : List (Fin 256) := allChans.flatMap fun p => allChans.map fun l => pairIndex p l

/-! ### Starting (R133, R134) -/

/-- A channel is usable: enabled, with its lane GOOD (R134). -/
def State.usable (s : State) (c : Chan) : Bool := (s.ch c).cfg.enable && decide ((s.ch c).lane = .good)

/-- A replay before its first sample (R146). -/
def Replay.start : Replay where
  prev := 0
  hit := none
  outcome := none

/-- The check as it stands at the take (R133, R134). -/
def Check.start (s : State) (kind : CheckKind) (involved : Vector Bool 16) (pulsers : List Chan)
    (lw ringDown tolerance : Nat) (adopt rebase : Bool) (slot : Fin 4) : Check where
  kind := kind
  running := false
  entered := 0
  involved := involved
  removed := Vector.replicate 16 false
  pulsers := pulsers
  lw := lw
  ringDown := ringDown
  tolerance := tolerance
  adopt := adopt
  rebase := rebase
  slot := slot
  startTick := s.tick
  startRun := s.ctl.run
  nextPulse := 0
  pulse := none
  pairs := Vector.replicate 256 .notMeasured
  pulses := 0
  replay := Vector.replicate 16 Replay.start

/-- The take of a CHECK START: policy, claims (QUIET channels enter TESTING at once), the drop range's span in ARMED
(R28, R58, R133, R134). -/
def State.beginCheck (s : State) (ck : Check) (policy : Policy) : State :=
  let s1 := { s with chk := { s.chk with check := some ck, policy := policy } }
  let s2 := s1.mapCh fun c x =>
    if ck.involved[c] then
      { x with state := if x.state = .quiet then .testing else x.state, leftCheck := false }
    else x
  if s.ctl.run = .armed then { s2 with dropRange := some (openSpan s.tick s2.dropRange) } else s2

/-- Tests 2 to 4 of a SHORT or LONG check (R133). -/
def State.pulseCheckTest (s : State) : Option Result :=
  if s.ctl.run = .freezing then some .busy
  else if s.chk.check.isSome then some .busy
  else if s.ctl.run = .armed ∧ s.press.phase ≠ .hold then some .state
  else none

/-- Tests 2 to 4 of a PATTERN check (R133). -/
def State.patternCheckTest (s : State) : Option Result :=
  if s.ctl.run = .freezing then some .busy
  else if s.chk.check.isSome then some .busy
  else if s.ctl.run = .idle then none
  else some .state

/-- An LW, ring-down or tolerance outside its range (R133). -/
def timesClamped (lw rd tol : Nat) : Bool := outside 1 65535 lw || outside 1 255 rd || outside 0 40 tol

/-- The usable listeners of a SHORT check: the mask less the pulser (R134). -/
def State.shortListeners (s : State) (pulser : Chan) (mask : Vector Bool 16) : Vector Bool 16 :=
  Vector.ofFn fun c => mask[c] && s.usable c && decide (c ≠ pulser)

/-- A SHORT check after tests 1 to 4 (R133, R134). -/
def checkShort (pulser : Nat) (mask : Vector Bool 16) (lw rd tol pol : Nat) (s : State) : Answer :=
  if h : pulser < 16 then
    match policyOf pol with
    | none => refuse s .range
    | some policy =>
      if s.usable ⟨pulser, h⟩ ∧ countSet (s.shortListeners ⟨pulser, h⟩ mask) ≠ 0 then
        (s.beginCheck
          (Check.start s .short ((s.shortListeners ⟨pulser, h⟩ mask).set pulser true) [⟨pulser, h⟩]
            (clampTo 1 65535 lw) (clampTo 1 255 rd) (clampTo 0 40 tol) false false 0) policy,
          doneOr (timesClamped lw rd tol), [])
      else refuse s .range
  else refuse s .range

/-- The rule of CHECK START with kind SHORT, and of one with an unlisted kind, which is FORMAT (R133). -/
def checkStartShortRule (payload : List Byte) (s : State) : Answer :=
  match payload with
  | [k, p, m1, m0, w1, w0, rd, tol, pol] =>
    if k = 1#8 then
      match s.pulseCheckTest with
      | some r => refuse s r
      | none => checkShort p.toNat (maskSet (nat16 m1 m0)) (nat16 w1 w0) rd.toNat tol.toNat pol.toNat s
    else refuse s .format
  | _ => refuse s .format

/-- Every usable channel (R134). -/
def State.usableSet (s : State) : Vector Bool 16 := Vector.ofFn fun c => s.usable c

/-- The pulsers of a LONG check, in ascending order (R134). -/
def State.longPulsers (s : State) : List Chan :=
  allChans.filter fun c => s.usable c && decide ((s.ch c).cfg.role ≠ .monitor)

/-- A LONG check after tests 1 to 4 (R133, R134). -/
def checkLong (lw rd tol pol opt : Nat) (s : State) : Answer :=
  match policyOf pol with
  | none => refuse s .range
  | some policy =>
    if s.longPulsers.isEmpty ∨ countSet s.usableSet < 2 then refuse s .range
    else
      (s.beginCheck
        (Check.start s .long s.usableSet s.longPulsers (clampTo 1 65535 lw) (clampTo 1 255 rd) (clampTo 0 40 tol)
          (opt.testBit 0) (opt.testBit 1) 0) policy,
        doneOr (timesClamped lw rd tol), [])

/-- The rule of CHECK START with kind LONG (R133). -/
def checkStartLongRule (payload : List Byte) (s : State) : Answer :=
  match payload with
  | [_, w1, w0, rd, tol, pol, opt] =>
    match s.pulseCheckTest with
    | some r => refuse s r
    | none => checkLong (nat16 w1 w0) rd.toNat tol.toNat pol.toNat opt.toNat s
  | _ => refuse s .format

/-- The usable channels of a PATTERN check's mask (R134). -/
def State.patternSet (s : State) (mask : Vector Bool 16) : Vector Bool 16 := Vector.ofFn fun c => mask[c] && s.usable c

/-- A PATTERN check after tests 1 to 4 (R133, R134). -/
def checkPattern (pol slot : Nat) (mask : Vector Bool 16) (s : State) : Answer :=
  if h : slot < 4 then
    match policyOf pol with
    | none => refuse s .range
    | some policy =>
      if (s.chk.patterns[slot]).isEmpty ∨ countSet (s.patternSet mask) = 0 then refuse s .range
      else (s.beginCheck (Check.start s .pattern (s.patternSet mask) [] 0 0 0 false false ⟨slot, h⟩) policy, .done, [])
  else refuse s .range

/-- The rule of CHECK START with kind PATTERN (R133). -/
def checkStartPatternRule (payload : List Byte) (s : State) : Answer :=
  match payload with
  | [_, pol, slot, m1, m0] =>
    match s.patternCheckTest with
    | some r => refuse s r
    | none => checkPattern pol.toNat slot.toNat (maskSet (nat16 m1 m0)) s
  | _ => refuse s .format

/-- A CHECK START that is neither a LONG nor a PATTERN one: SHORT, or of no listed kind (log 5). -/
def isCheckShort (f : Frame) : Bool :=
  kindIs 0x15#8 f && !kindHead 0x15#8 2#8 f && !kindHead 0x15#8 3#8 f

/-! ### Gathering, pulsing, listening (R134, R136, R137) -/

/-- Every involved channel is in TESTING or has been removed (R134, R138). -/
def State.gathered (s : State) (ck : Check) : Bool :=
  allChans.all fun c => !ck.owns c || decide ((s.ch c).state = .testing)

/-- GATHERING_COMPLETE: the check enters RUNNING at g, and its first pulse falls due at g + 1 (R134, R136). A check that
is held stays in GATHERING (R2). -/
def State.gatheringComplete (s : State) : State :=
  match s.movingCheck with
  | none => s
  | some ck =>
    if !ck.running && s.gathered ck then
      { s with
        chk := { s.chk with check := some { ck with running := true, entered := s.tick, nextPulse := s.tick + 1 } } }
    else s

/-- The pulsers still to come, removed channels skipped (R138). -/
def Check.remaining (ck : Check) : List Chan := ck.pulsers.filter fun c => !ck.removed[c]

/-- No listening window is open. -/
def Check.windowClosed (ck : Check) : Bool :=
  match ck.pulse with
  | none => true
  | some p => !p.windowOpen

/-- The pulse driven at tick t0 on channel p (R29, R136). -/
def Check.drive (ck : Check) (p : Chan) (level t0 : Nat) : Check :=
  { ck with
    pulsers := ck.remaining.tail
    pulse := some ⟨p, t0, level, true, Vector.replicate 16 none⟩
    nextPulse := t0 + ck.lw + Config.ticksPerMs * ck.ringDown + 1
    pulses := ck.pulses + 1 }

/-- PULSE: the next pulse falls due and is driven; its tick is t0 (R29, R136). Where the pulser's loss falls at that
tick, the queue's order of this command and LANE_LOST decides whether the pulse is skipped (R138; DESIGN CHOICE, log
41). -/
def State.pulse (s : State) : State :=
  match s.movingCheck with
  | none => s
  | some ck =>
    match ck.remaining with
    | [] => s
    | p :: _ =>
      if ck.running && decide (ck.kind ≠ .pattern) && ck.windowClosed && decide (ck.nextPulse ≤ s.tick) then
        { s with chk := { s.chk with check := some (ck.drive p (s.ch p).cfg.pulserLevel s.tick) } }
      else s

/-- Channel c is a listener of pulser p that is still in the check (R134, R138). -/
def Check.listener (ck : Check) (p c : Chan) : Bool := ck.owns c && decide (c ≠ p)

/-- The window has ended: its last sample has been taken by every listener (R137). -/
def State.windowOver (s : State) (ck : Check) (p : Pulse) : Bool :=
  passed s.tick (allChans.all fun c => !ck.listener p.pulser c || (s.ch c).frameSeen) (p.t0 + ck.lw)

/-- What a response measures (R137). -/
def measOf : Option Resp → Meas
  | none => .silent
  | some r => .heard r.delay (ampCode r.peak)

/-- LISTENING_WINDOW_END: each listener's response becomes its pair entry; the ring-down begins (R137). Where a
listener's loss falls at the window's last sample, the queue's order of this command and LANE_LOST decides: a listener
lost before is removed and its pair keeps NOT_MEASURED, one lost after has its response (R138; DESIGN CHOICE, log 41).
-/
def State.listeningWindowEnd (s : State) : State :=
  match s.movingCheck with
  | none => s
  | some ck =>
    match ck.pulse with
    | none => s
    | some p =>
      if p.windowOpen && s.windowOver ck p then
        { s with
          chk :=
            { s.chk with
              check := some
                { ck with
                  pulse := some { p with windowOpen := false }
                  pairs := Vector.ofFn fun i =>
                    if pairPulser i = p.pulser ∧ ck.listener p.pulser (pairListener i) then
                      measOf p.resp[pairListener i]
                    else ck.pairs[i] } } }
      else s

/-! ### Pattern replay (R146) -/

/-- The replay of one channel takes a sample at tick t (R30 to R34, R146). -/
def Replay.sample (r : Replay) (x : Channel) (t : Nat) (sample : Sample) : Replay :=
  let mag := magnitude sample
  let count := isCount x.thr r.prev mag
  match r.hit with
  | none =>
    if count then
      { r with prev := mag, hit := some (Hit.opened t mag (isClipped sample) ⟨0, .ramp, 0, false, false⟩) }
    else { r with prev := mag }
  | some h => { r with prev := mag, hit := some (h.sample x.cfg.pdt t mag count (isClipped sample)) }

/-- A channel's replay goes on: it is in the check, undecided (R146). -/
def Check.replays (ck : Check) (c : Chan) : Bool := ck.owns c && (ck.replay[c]).outcome.isNone

/-- Sample i of the slot, 0 after the last (R146). -/
def CheckUnit.slotSample (k : CheckUnit) (slot : Fin 4) (i : Nat) : Sample := (k.patterns[slot]).getD i 0

/-- The replay of every channel takes the sample of the tick just begun (R146). -/
def State.feedPattern (s : State) : State :=
  match s.movingCheck with
  | none => s
  | some ck =>
    if ck.running && decide (ck.kind = .pattern) then
      { s with
        chk :=
          { s.chk with
            check := some
              { ck with
                replay := Vector.ofFn fun c =>
                  if ck.replays c then
                    (ck.replay[c]).sample (s.ch c) s.tick (s.chk.slotSample ck.slot (s.tick - ck.entered - 1))
                  else ck.replay[c] } } }
    else s

/-- The outcome of a replayed hit (R146). -/
def hitOutcome (h : Hit) (cfg : ChanCfg) (entered : Nat) (long : Bool) : PatOutcome :=
  .hit (h.arrival - entered - 1) (min Config.sat16 (h.peakTick - h.arrival)) (h.lastCount - h.arrival)
    (min Config.sat16 h.counts) h.energy (h.amplitude cfg) h.clipped long

/-- The outcome that channel c has reached, if its first hit has ended or the slot has ended with no count (R146). -/
def State.patternDue (s : State) (ck : Check) (c : Chan) : Option PatOutcome :=
  match (ck.replay[c]).hit with
  | none => if (s.chk.patterns[ck.slot]).length ≤ s.tick - ck.entered then some .silent else none
  | some h =>
    if h.normalDue (s.ch c).cfg s.tick true then some (hitOutcome h (s.ch c).cfg ck.entered false)
    else if h.forcedDue (s.ch c).cfg s.tick true then some (hitOutcome h (s.ch c).cfg ck.entered true)
    else none

/-- PATTERN_OUTCOME of channel c (R146). -/
def State.patternOutcome (s : State) (c : Chan) : State :=
  match s.movingCheck with
  | none => s
  | some ck =>
    if ck.running && decide (ck.kind = .pattern) && ck.replays c then
      match s.patternDue ck c with
      | none => s
      | some o =>
        { s with
          chk :=
            { s.chk with
              check := some { ck with replay := ck.replay.set c { ck.replay[c] with outcome := some o } } } }
    else s

/-! ### Completion (R140 to R143, R147) -/

/-- The pair velocity of a measured pair (R140). -/
def Locator.pairVel (l : Locator) (p q : Chan) : Meas → PairVel
  | .notMeasured => .absent
  | .silent => .absent
  | .heard delay _ =>
    match l.geom, l.position p, l.position q with
    | some g, some a, some b =>
      if g.dist a b = 0 then .absent
      else if 500 ≤ (g.dist a b * 5000 + delay / 2) / delay ∧ (g.dist a b * 5000 + delay / 2) / delay ≤ 9999 then
        .valid ((g.dist a b * 5000 + delay / 2) / delay)
      else .invalid ((g.dist a b * 5000 + delay / 2) / delay)
    | _, _, _ => .absent

/-- Is the baseline filled at this completion (R142)? -/
def CheckUnit.fills (k : CheckUnit) (ck : Check) : Bool := decide (ck.kind = .long) && (!k.baselineHeld || ck.rebase)

/-- The baseline entry a measured pair gives (R142). -/
def baselineOf : Meas → Option Nat
  | .heard _ code => some code
  | .silent => none
  | .notMeasured => none

/-- The baseline after the completion (R142). -/
def CheckUnit.nextBaseline (k : CheckUnit) (ck : Check) : Vector (Option Nat) 256 :=
  if k.fills ck then Vector.ofFn fun i => baselineOf ck.pairs[i] else k.baseline

/-- Is a measured pair DEGRADED against its baseline entry (R143)? -/
def isDegraded (tolerance : Nat) (base : Option Nat) : Meas → Bool
  | .notMeasured => false
  | .silent => base.isSome
  | .heard _ code =>
    match base with
    | none => false
    | some b => decide (tolerance < b - code)

/-- The latest result that the check leaves (R140, R143, R147, log 17). -/
def State.pairResults (s : State) (ck : Check) : Vector PairResult 256 :=
  Vector.ofFn fun i =>
    { meas := ck.pairs[i]
      vel := s.loc.pairVel (pairPulser i) (pairListener i) ck.pairs[i]
      degraded := isDegraded ck.tolerance (s.chk.nextBaseline ck)[i] ck.pairs[i] }

/-- The pairs in which channel c listened and was measured (R143). -/
def Check.heardPairs (ck : Check) (c : Chan) : List (Fin 256) :=
  (allChans.map fun p => pairIndex p c).filter fun i => decide (ck.pairs[i] ≠ .notMeasured)

/-- The verdict of channel c after the check (R143). -/
def State.nextVerdict (s : State) (ck : Check) (c : Chan) : Verdict :=
  let heard := ck.heardPairs c
  let judged := heard.filter fun i => ((s.chk.nextBaseline ck)[i]).isSome
  if ck.removed[c] || heard.isEmpty then s.chk.verdicts[c]
  else if judged.isEmpty then .unknown
  else if judged.all fun i => isDegraded ck.tolerance (s.chk.nextBaseline ck)[i] ck.pairs[i] then .poor
  else .good

/-- The valid pair velocities of a result (R140). -/
def validVels (r : Vector PairResult 256) : List Nat :=
  allPairs.filterMap fun i => match r[i].vel with
    | .valid v => some v
    | .invalid _ => none
    | .absent => none

/-- The velocity estimate: the lower median (R141). -/
def estimateOf (vels : List Nat) : Option Nat := (vels.insertionSort (· ≤ ·))[(vels.length - 1) / 2]?

/-- What becomes of the estimate of a LONG check (R141). Where several reasons hold, NOT_ASKED goes before NOT_IDLE, and
NOT_IDLE before TOO_FEW (DESIGN CHOICE, log 37). -/
def State.adoption (s : State) (ck : Check) (n : Nat) : Adoption :=
  if !ck.adopt then .notAsked
  else if s.ctl.run ≠ .idle then .notIdle
  else if n < 3 then .tooFew
  else .adopted

/-- The velocity after the completion (R88, R141). -/
def State.nextVelocity (s : State) (ck : Check) (vels : List Nat) : Nat :=
  if ck.kind = .long ∧ s.adoption ck vels.length = .adopted then (estimateOf vels).getD s.loc.v else s.loc.v

/-- The baseline action a CHECK RESULT reports (R149). -/
def CheckUnit.baseAction (k : CheckUnit) (ck : Check) : BaseAction :=
  if k.fills ck then if k.baselineHeld then .rebased else .filled else .kept

/-- The detail of the CHECK RESULT of a completed SHORT or LONG check (R149). -/
def State.pairsDetail (s : State) (ck : Check) : CheckDetail :=
  let r := s.pairResults ck
  let vels := validVels r
  .pairs ck.pulses
    (allPairs.filter fun i => decide (ck.pairs[i] ≠ .notMeasured)).length
    (allPairs.filter fun i => (baselineOf ck.pairs[i]).isSome).length
    (allPairs.filter fun i => r[i].degraded).length
    vels.length
    (if ck.kind = .long then estimateOf vels else none)
    (if ck.kind = .long then some (s.adoption ck vels.length) else none)
    (s.chk.baseAction ck)
    (Vector.ofFn fun c => s.nextVerdict ck c)
    (Vector.ofFn fun c => decide (s.nextVerdict ck c ≠ s.chk.verdicts[c]))

/-- The outcomes of a PATTERN check, none for a channel not involved (R149). -/
def Check.outcomes (ck : Check) : Vector (Option PatOutcome) 16 :=
  Vector.ofFn fun c => if ck.involved[c] then (ck.replay[c]).outcome else none

/-- The detail of the CHECK RESULT of a completed check (R149). -/
def State.completeDetail (s : State) (ck : Check) : CheckDetail :=
  match ck.kind with
  | .pattern => .pattern ck.slot ck.outcomes
  | .short => s.pairsDetail ck
  | .long => s.pairsDetail ck

/-- The check has come to its completion: the last ring-down has ended or no pulse can follow, or every PATTERN outcome
is decided (R136, R138, R146). A check that has lost all its pulsers is over in GATHERING too (log 27). -/
def State.checkOver (s : State) (ck : Check) : Bool :=
  match ck.kind with
  | .pattern => allChans.all fun c => !ck.involved[c] || (ck.replay[c]).outcome.isSome
  | _ =>
    ck.remaining.isEmpty && (match ck.pulse with
      | none => true
      | some p => !p.windowOpen && decide (ck.nextPulse ≤ s.tick + 1))

/-- The verdict of channel c changes: FAULT notice COUPLING and change flag (R143). -/
def State.changeVerdict (s0 : State) (ck : Check) (s : State) (c : Chan) : State :=
  if s0.nextVerdict ck c = s0.chk.verdicts[c] then s
  else
    State.notify (s.modCh c fun x => { x with faultChanged := true })
      (.faultCoupling s0.tick c s0.chk.verdicts[c] (s0.nextVerdict ck c))

/-- What a completed SHORT or LONG check leaves in the check unit and the locator (R141 to R143, R147). -/
def State.keepPairs (s0 : State) (ck : Check) (s : State) : State :=
  { s with
    chk :=
      { s.chk with
        baselineHeld := s0.chk.baselineHeld || s0.chk.fills ck
        baseline := s0.chk.nextBaseline ck
        verdicts := Vector.ofFn fun c => s0.nextVerdict ck c
        latest := some (s0.pairResults ck) }
    loc := { s.loc with v := s0.nextVelocity ck (validVels (s0.pairResults ck)) } }

/-- Step 3 of R147; the COUPLING notices go in ascending channel order (DESIGN CHOICE, log 35). -/
def State.keepResult (s0 : State) (ck : Check) (s : State) : State :=
  match ck.kind with
  | .pattern => s
  | _ => allChans.foldl (State.changeVerdict s0 ck) (State.keepPairs s0 ck s)

/-- CHECK_COMPLETE (R147): release, the drop range, the result, the CHECK RESULT notice. Where a channel's loss falls at
the tick of the completion, the queue's order of this command and LANE_LOST decides whether the channel is removed first
(R138; DESIGN CHOICE, log 41); whether a released channel's own sample of that tick is still ignored in TESTING or
already tested in QUIET, its order with LANE_SAMPLE (R28, R147; DESIGN CHOICE, log 43). A check that is held does not
complete (R2). -/
def State.checkComplete (s : State) : State :=
  match s.movingCheck with
  | none => s
  | some ck =>
    if s.checkOver ck then
      State.notify (State.keepResult s ck ((s.releaseCheck ck).endSpan ck))
        (.checkResult ck.kind ck.startTick s.tick ck.startRun (s.completeDetail ck))
    else s

/-! ### CHECK ABORT (R148) -/

/-- The answer of CHECK ABORT; the abort itself follows the reply (R148). -/
def checkAbortRule (payload : List Byte) (s : State) : Answer :=
  noPayload (fun s => if s.chk.check.isSome then (s, .done, []) else refuse s .state) payload s

/-- CHECK ABORT: the reply is placed before the CHECK RESULT (R148). -/
def State.checkAbort (s : State) : State :=
  match s.request (kindIs 0x16#8) with
  | none => s
  | some f =>
    if f.payload.isEmpty then (s.handle (kindIs 0x16#8) checkAbortRule).abortCheck .request
    else s.handle (kindIs 0x16#8) checkAbortRule

/-! ### PATTERN LOAD (R145) -/

/-- The samples of a piece, two bytes each (R191). -/
def samplesOf : List Byte → List Sample
  | hi :: lo :: rest => BitVec.ofNat 16 (nat16 hi lo) :: samplesOf rest
  | _ => []

/-- PATTERN LOAD after the FORMAT test (R145). -/
def patternStore (slot start : Nat) (piece : List Sample) (s : State) : Answer :=
  if s.ctl.run ≠ .idle then refuse s .state
  else if s.chk.check.isSome then refuse s .busy
  else if h : slot < 4 then
    if (start = 0 ∨ start = (s.chk.patterns[slot]).length) ∧ start + piece.length ≤ Config.patternCap then
      ({ s with
          chk :=
            { s.chk with
              patterns := s.chk.patterns.set slot (if start = 0 then piece else s.chk.patterns[slot] ++ piece) } },
        .done, [])
    else refuse s .range
  else refuse s .range

/-- The rule of PATTERN LOAD (R145). -/
def patternLoadRule (payload : List Byte) (s : State) : Answer :=
  match payload with
  | slot :: a1 :: a0 :: n :: rest =>
    if rest.length = 2 * n.toNat ∧ 1 ≤ n.toNat ∧ n.toNat ≤ 128 then
      patternStore slot.toNat (nat16 a1 a0) (samplesOf rest) s
    else refuse s .format
  | _ => refuse s .format

/-! ### BASELINE READ (R149, 11.4) -/

/-- A LATEST pair entry, three bytes. -/
def latestBytes (r : PairResult) : List Byte :=
  match r.meas with
  | .heard delay code => be 2 delay ++ be 1 (code + 128 * r.degraded.toNat)
  | .silent => be 2 0 ++ be 1 (0x7E + 128 * r.degraded.toNat)
  | .notMeasured => be 2 0 ++ be 1 (0x7F + 128 * r.degraded.toNat)

/-- The velocity map's two bits of a pair. -/
def PairVel.code : PairVel → Nat
  | .absent => 0
  | .valid _ => 1
  | .invalid _ => 2

/-- The velocity map: the four entries of each byte, the first in the least significant bits. -/
def velocityMap (r : Vector PairResult 256) : List Byte :=
  (List.range 64).flatMap fun k =>
    be 1 (packPairs ((List.range 4).map fun j => (r[(Fin.ofNat 256 (4 * k + j))]).vel.code))

/-- Baseline status, policy and verdicts: what both selectors give. -/
def State.baselineHead (s : State) : List Byte :=
  be 1 s.chk.baselineHeld.toNat ++ be 1 s.chk.policy.code ++ be 4 (packVerdicts s.chk.verdicts)

/-- The reply data with the selector BASELINE. -/
def State.baselineData (s : State) : List Byte :=
  s.baselineHead ++ allPairs.flatMap fun i => be 1 ((s.chk.baseline[i]).getD 255)

/-- An entry of an absent latest result: NOT_MEASURED, no pair velocity (DESIGN CHOICE, log 38). -/
def PairResult.blank : PairResult where
  meas := .notMeasured
  vel := .absent
  degraded := false

/-- The reply data with the selector LATEST; with no latest result every entry is blank (DESIGN CHOICE, log 38). -/
def State.latestData (s : State) : List Byte :=
  let r := s.chk.latest.getD (Vector.replicate 256 PairResult.blank)
  s.baselineHead ++ be 1 s.chk.latest.isSome.toNat ++ (allPairs.flatMap fun i => latestBytes r[i]) ++ velocityMap r

/-- The rule of BASELINE READ with the selector BASELINE, and with one that is not listed (R149). -/
def baselineReadRule (payload : List Byte) (s : State) : Answer :=
  match payload with
  | [b] => if b = 0#8 then (s, .done, s.baselineData) else refuse s .range
  | _ => refuse s .format

/-- The rule of BASELINE READ with the selector LATEST (R149). -/
def baselineLatestRule (_ : List Byte) (s : State) : Answer := (s, .done, s.latestData)

/-- A BASELINE READ that does not select LATEST (log 5). -/
def isBaselineRead (f : Frame) : Bool := kindIs 0x18#8 f && !kindOnly 0x18#8 1#8 f

/-! ### Meanings -/

def execGatheringComplete (s : State) : Host.Outcome State Fault Refusal := live State.gatheringComplete s

def execPulse (s : State) : Host.Outcome State Fault Refusal := live State.pulse s

def execListeningWindowEnd (s : State) : Host.Outcome State Fault Refusal := live State.listeningWindowEnd s

def execCheckComplete (s : State) : Host.Outcome State Fault Refusal := live State.checkComplete s

def execPatternOutcome (c : Chan) (s : State) : Host.Outcome State Fault Refusal :=
  live (fun s => s.patternOutcome c) s

def execCheckStartShort (s : State) : Host.Outcome State Fault Refusal :=
  live (State.handle isCheckShort checkStartShortRule) s

def execCheckStartLong (s : State) : Host.Outcome State Fault Refusal :=
  live (State.handle (kindHead 0x15#8 2#8) checkStartLongRule) s

def execCheckStartPattern (s : State) : Host.Outcome State Fault Refusal :=
  live (State.handle (kindHead 0x15#8 3#8) checkStartPatternRule) s

def execCheckAbort (s : State) : Host.Outcome State Fault Refusal := live State.checkAbort s

def execPatternLoad (s : State) : Host.Outcome State Fault Refusal :=
  live (State.handle (kindIs 0x17#8) patternLoadRule) s

def execBaselineRead (s : State) : Host.Outcome State Fault Refusal :=
  live (State.handle isBaselineRead baselineReadRule) s

def execBaselineReadLatest (s : State) : Host.Outcome State Fault Refusal :=
  live (State.handle (kindOnly 0x18#8 1#8) baselineLatestRule) s

end Sys2Proof.Machine
end

