-- ==== Sys2Proof/Machine/Link.lean ====
section
/-!
DEFINITION. The receiving side of the serial link (09): the receiver byte by byte, the inbound slots, the receive
errors, breaks, and the answer to a frame of unknown kind.
-/

namespace Sys2Proof.Machine

/-! ### Receive errors (R171) -/

/-- The counter of a receive error (R171). -/
def Link.count (l : Link) : RxError → Nat
  | .framing => l.framing
  | .overrun => l.overrun
  | .crc => l.crc
  | .length => l.length
  | .truncated => l.truncated
  | .brk => l.brk

/-- A counter increased by 1, saturating at 65535 (R171, R172). -/
def Link.bump (l : Link) : RxError → Link
  | .framing => { l with framing := satAdd Config.sat16 l.framing 1 }
  | .overrun => { l with overrun := satAdd Config.sat16 l.overrun 1 }
  | .crc => { l with crc := satAdd Config.sat16 l.crc 1 }
  | .length => { l with length := satAdd Config.sat16 l.length 1 }
  | .truncated => { l with truncated := satAdd Config.sat16 l.truncated 1 }
  | .brk => { l with brk := satAdd Config.sat16 l.brk 1 }

/-- The receiver moves to a state with its byte timer at 0 (R169). -/
def Link.goTo (l : Link) (rx : RxState) : Link := { l with rx := rx, timer := 0 }

/-- A receive error: the frame in assembly discarded, the counter, the notice, HUNT (R171). -/
def State.linkError (s : State) (e : RxError) : State :=
  State.notify { s with link := (s.link.bump e).goTo .hunt } (.linkError e ((s.link.bump e).count e) s.link.rx)

/-! ### Bytes (R169, R170) -/

/-- The payload length that the bytes of a frame announce, once the length field is in (R167). -/
def frameLength : List Byte → Option Nat
  | _ :: _ :: hi :: lo :: _ => some (nat16 hi lo)
  | _ => none

/-- The frame that kind, tag, length and payload give (R170). -/
def frameOf (got : List Byte) (n : Nat) : Frame where
  kind := got.getD 0 0
  tag := got.getD 1 0
  payload := (got.drop 4).take n

/-- The CRC bytes agree with the kind, tag, length and payload received (R168, R169). -/
def crcAgrees (got : List Byte) (n : Nat) : Bool :=
  decide (got.drop (4 + n) = be 2 (crc16 (got.take (4 + n))).toNat)

/-- A byte joins the frame in assembly (R169). -/
def State.frameByte (s : State) (got : List Byte) : State :=
  match frameLength got with
  | none => { s with link := s.link.goTo (.frame got) }
  | some n =>
    if Config.payloadMax < n then s.linkError .length
    else if got.length < 6 + n then { s with link := s.link.goTo (.frame got) }
    else if crcAgrees got n then
      { s with link := { s.link.goTo .hunt with ready := s.link.ready ++ [frameOf got n] } }
    else s.linkError .crc

/-- One byte, by the receiver's state (R169); in FRAME the kind byte claims a slot (R170). -/
def State.rxByte (s : State) (b : Byte) : State :=
  match s.link.rx with
  | .hunt => if b = 0xC3#8 then { s with link := s.link.goTo .sync } else s
  | .sync =>
    if b = 0x3C#8 then { s with link := s.link.goTo (.frame []) }
    else if b = 0xC3#8 then s
    else { s with link := s.link.goTo .hunt }
  | .frame got =>
    if got.isEmpty && decide (Config.slotCap ≤ s.link.ready.length) then
      State.linkError { s with link := { s.link with rx := .frame [] } } .overrun
    else s.frameByte (got ++ [b])
  | .brk => s
  | .reset => s

/-- TRUNCATED: 10 ms without a byte in FRAME (R169). -/
def State.truncated (s : State) : State :=
  match s.link.rx with
  | .frame _ => if Config.interByteLimit ≤ s.link.timer then s.linkError .truncated else s
  | _ => s

/-- FRAME_RECEIVED: the bytes one by one, after a TRUNCATED that had fallen due (R169, log 4). -/
def State.frameReceived (bytes : List Byte) (s : State) : State := bytes.foldl State.rxByte s.truncated

/-! ### Framing errors and breaks (R171, R172) -/

/-- Does the receiver take characters: not in BREAK and not in RESET (R171, R172)? -/
def RxState.listens : RxState → Bool
  | .hunt => true
  | .sync => true
  | .frame _ => true
  | .brk => false
  | .reset => false

/-- FRAMING_ERROR, after a TRUNCATED that had fallen due (R171, R172, log 4). -/
def State.framingError (s : State) : State :=
  if s.link.rx.listens then s.truncated.linkError .framing else s

/-- A break empties the slots and holds the receiver in BREAK (R172). -/
def State.enterBreak (s : State) : State :=
  State.notify { s with link := { (s.link.bump .brk).goTo .brk with ready := [] } }
    (.linkError .brk ((s.link.bump .brk).count .brk) s.link.rx)

/-- BREAK, after a TRUNCATED that had fallen due (R172, log 4). -/
def State.lineBreak (s : State) : State := if s.link.rx.listens then s.truncated.enterBreak else s

/-- BREAK_END (R172). -/
def State.lineBreakEnd (s : State) : State :=
  match s.link.rx with
  | .brk => { s with link := s.link.goTo .hunt }
  | _ => s

/-! ### UNKNOWN (R174) -/

/-- A frame whose kind is no request kind changes nothing (R174). -/
def unknownKindRule (_ : List Byte) (s : State) : Answer := refuse s .unknown

/-! ### Meanings -/

def execFrameReceived (bytes : List Byte) (s : State) : Host.Outcome State Fault Refusal :=
  live (State.frameReceived bytes) s

def execFramingError (s : State) : Host.Outcome State Fault Refusal := live State.framingError s

def execTruncated (s : State) : Host.Outcome State Fault Refusal := live State.truncated s

def execLineBreak (s : State) : Host.Outcome State Fault Refusal := live State.lineBreak s

def execLineBreakEnd (s : State) : Host.Outcome State Fault Refusal := live State.lineBreakEnd s

def execUnknownKind (s : State) : Host.Outcome State Fault Refusal :=
  live (State.handle (fun f => !isRequestKind f) unknownKindRule) s

end Sys2Proof.Machine
end

