-- ==== Sys2Proof/Machine/Location.lean ====
section
/-!
DEFINITION. The locator (05): the requests that load geometry, positions, windows and zones, the residual search, and
the start and end of a location.
-/

namespace Sys2Proof.Machine

/-! ### The search (R96 to R103) -/

/-- A member with its sensor's position, for the members on placed channels, in member-list order (R97). -/
def Geometry.placedMembers (g : Geometry) (ms : List Member) : List (Member × Pos) :=
  ms.filterMap fun m => (g.pos[m.record.channel]).map fun p => (m, p)

/-- A clamped term: (m_i − p_i(c))² where `m` is the measured and `p` the predicted difference (R98). -/
def residualTerm (m p : Int) : Nat := min Config.sat32 ((m - p).natAbs * (m - p).natAbs)

/-- The term of placed member i at a cell centre, member 1 being `first` (R97, R98). -/
def Geometry.term (g : Geometry) (v : Nat) (at' : Pos) (first i : Member × Pos) : Nat :=
  residualTerm ((i.1.delta : Int) - first.1.delta)
    ((travel v (g.dist at' i.2) : Int) - travel v (g.dist at' first.2))

/-- The residual R(c) of a cell (R98). -/
def Geometry.residual (g : Geometry) (v : Nat) (ms : List (Member × Pos)) (cell : Nat × Nat) : Nat :=
  match ms with
  | [] => 0
  | first :: rest => min Config.sat32 (rest.map fun i => g.term v (g.centre cell.1 cell.2) first i).sum

/-- The cell with the least residual, the first visited among equals (R99). -/
def bestCell (f : Nat × Nat → Nat) (start : Nat × Nat) (cells : List (Nat × Nat)) : Nat × Nat :=
  cells.foldl (fun best c => if f c < f best then c else best) start

/-- The best cell of a window; the first cell visited is (base column, base row) (R93, R99). -/
def Geometry.search (g : Geometry) (v : Nat) (ms : List (Member × Pos)) (w : Rect) : Nat × Nat :=
  bestCell (g.residual v ms) (w.col, w.row) (g.cellsOf w)

/-- The mean residual of k placed members (R100). -/
def meanResidual (rmin k : Nat) : Nat := rmin / (k - 1)

/-- The quality of a mean residual (R100). -/
def qualityOf (rm : Nat) : Nat := min Config.sat8 (isqrt rm)

/-- The location part of a location in progress (R81, R99 to R102). -/
def Locating.part (b : Locating) : LocPart :=
  let ms := b.geom.placedMembers b.event.members
  let w := b.geom.win[b.event.firstChannel]
  let cell := b.geom.search b.v ms w
  let rmin := b.geom.residual b.v ms cell
  let rm := meanResidual rmin ms.length
  { col := cell.1
    row := cell.2
    index := cell.2 * b.geom.nc + cell.1
    residual := rmin
    mean := rm
    quality := qualityOf rm
    edge := b.geom.border w cell.1 cell.2
    zone := if rm ≤ b.rl then b.geom.exclusion cell.1 cell.2 else none }

/-- The state that a location decides (R101). -/
def Locating.decide (b : Locating) : EventState :=
  if b.part.mean ≤ b.rl then
    match b.part.zone with
    | none => .located
    | some n => .excluded n
  else .noFit

/-- The completed event (R82, R101). -/
def Locating.result (b : Locating) : EventRec := { b.event with state := b.decide, loc := some b.part }

/-! ### Start and end (R105 to R107) -/

/-- The sample periods of a location over n cells with k placed members (R106). -/
def locationTime (n k : Nat) : Nat := (n * k + 4) / 5

/-- A location of this event with the inputs as they stand (R105, R106). -/
def Locating.begin (g : Geometry) (v rl : Nat) (e : EventRec) : Locating where
  event := e
  left := locationTime ((g.win[e.firstChannel]).colSpan * (g.win[e.firstChannel]).rowSpan)
    (g.placedMembers e.members).length
  geom := g
  v := v
  rl := rl

/-- LOCATION_START: the FREE locator takes the head of its queue, with the inputs as they stand now (R105, log 28). -/
def State.locationStart (s : State) : State :=
  match s.loc.busy, s.loc.queue, s.loc.geom with
  | none, e :: rest, some g =>
    { s with loc := { s.loc with queue := rest, busy := some (Locating.begin g s.loc.v s.assoc.rl e) } }
  | _, _, _ => s

/-- A completed event leaves the locator, which becomes FREE; a LOCATED one is counted (R107, R160). -/
def State.freeLocator (s : State) (b : Locating) : State :=
  { s with
    loc := { s.loc with busy := none }
    ctl :=
      if b.decide = .located then { s.ctl with located := satAdd Config.sat32 s.ctl.located 1 } else s.ctl }

/-- LOCATION_END: the duration has elapsed; the event goes to the report unit and, if LOCATED, to the map (R107). The
EVENT record is handed over before the map queues a CLUSTER notice (DESIGN CHOICE, log 39). -/
def State.locationEnd (s : State) : State :=
  match s.loc.busy with
  | none => s
  | some b =>
    if b.left = 0 then
      let s1 := (s.freeLocator b).report (.event b.result)
      if b.decide = .located then s1.accumulate b.geom.nc b.geom.nr b.result b.part else s1
    else s

/-! ### GEOMETRY SET (R87) -/

/-- GEOMETRY SET after the FORMAT test (R87). -/
def geometryStore (circ len nc nr v : Nat) (s : State) : Answer :=
  match s.configTest with
  | some r => refuse s r
  | none =>
    if outside 100 65535 circ || outside 100 65535 len || outside 4 64 nc || outside 1 32 nr then refuse s .range
    else
      ({ s with
          loc := { s.loc with geom := some (Geometry.fresh circ len nc nr), v := clampTo 500 9999 v }
          map := s.map.clearTo (nc * nr) },
        doneOr (outside 500 9999 v), [])

/-- The rule of GEOMETRY SET (R87, 11.3). -/
def geometrySetRule (payload : List Byte) (s : State) : Answer :=
  match payload with
  | [c1, c0, l1, l0, nc, nr, v1, v0] =>
    geometryStore (nat16 c1 c0) (nat16 l1 l0) nc.toNat nr.toNat (nat16 v1 v0) s
  | _ => refuse s .format

/-! ### SENSOR PLACE (R90) -/

/-- The loaded geometry replaced. -/
def State.setGeom (s : State) (g : Geometry) : State := { s with loc := { s.loc with geom := some g } }

/-- A position given or taken away. -/
def Geometry.put (g : Geometry) (c : Chan) (p : Option Pos) : Geometry := { g with pos := g.pos.set c p }

/-- SENSOR PLACE with the action place, or with one that is not listed (R90). -/
def sensorPlaceStore (ch action x z : Nat) (s : State) : Answer :=
  match s.configTest with
  | some r => refuse s r
  | none =>
    if h : ch < 16 then
      match s.loc.geom with
      | none => refuse s .range
      | some g =>
        if action ≠ 1 ∨ g.circ ≤ x ∨ g.len < z then refuse s .range
        else (s.setGeom (g.put ⟨ch, h⟩ (some ⟨x, z⟩)), .done, [])
    else refuse s .range

/-- SENSOR PLACE with the action unplace: s and z are not tested (R90). -/
def sensorUnplaceStore (ch : Nat) (s : State) : Answer :=
  match s.configTest with
  | some r => refuse s r
  | none =>
    if h : ch < 16 then
      match s.loc.geom with
      | none => refuse s .range
      | some g => (s.setGeom (g.put ⟨ch, h⟩ none), .done, [])
    else refuse s .range

/-- The rule of SENSOR PLACE with the action place (R90, 11.3). -/
def sensorPlaceRule (payload : List Byte) (s : State) : Answer :=
  match payload with
  | [ch, action, s1, s0, z1, z0] => sensorPlaceStore ch.toNat action.toNat (nat16 s1 s0) (nat16 z1 z0) s
  | _ => refuse s .format

/-- The rule of SENSOR PLACE with the action unplace (R90, 11.3). -/
def sensorUnplaceRule (payload : List Byte) (s : State) : Answer :=
  match payload with
  | [ch, _, _, _, _, _] => sensorUnplaceStore ch.toNat s
  | _ => refuse s .format

/-- A SENSOR PLACE that asks for the channel to be unplaced (log 5). -/
def isUnplace (f : Frame) : Bool :=
  kindIs 0x08#8 f && (match f.payload with
    | [_, action, _, _, _, _] => action == 0#8
    | _ => false)

/-- Any other SENSOR PLACE (log 5). -/
def isPlace (f : Frame) : Bool := kindIs 0x08#8 f && !isUnplace f

/-! ### WINDOW SET and ZONE SET (R92, R94) -/

/-- WINDOW SET after the FORMAT test (R92). -/
def windowStore (ch col colSpan row rowSpan : Nat) (s : State) : Answer :=
  match s.configTest with
  | some r => refuse s r
  | none =>
    if h : ch < 16 then
      match s.loc.geom with
      | none => refuse s .range
      | some g =>
        if g.nc ≤ col ∨ g.nr ≤ row then refuse s .range
        else
          (s.setGeom { g with win := g.win.set ch (fitRect g.nc g.nr col colSpan row rowSpan) },
            doneOr (spanClamped g.nc g.nr colSpan row rowSpan), [])
    else refuse s .range

/-- The rule of WINDOW SET (R92, 11.3). -/
def windowSetRule (payload : List Byte) (s : State) : Answer :=
  match payload with
  | [ch, col, colSpan, row, rowSpan] => windowStore ch.toNat col.toNat colSpan.toNat row.toNat rowSpan.toNat s
  | _ => refuse s .format

/-- ZONE SET after the FORMAT test (R94). -/
def zoneStore (zone enable col colSpan row rowSpan : Nat) (s : State) : Answer :=
  match s.configTest with
  | some r => refuse s r
  | none =>
    if h : zone < 8 then
      match onOff enable, s.loc.geom with
      | some on, some g =>
        if g.nc ≤ col ∨ g.nr ≤ row then refuse s .range
        else
          (s.setGeom { g with zones := g.zones.set zone ⟨on, fitRect g.nc g.nr col colSpan row rowSpan⟩ },
            doneOr (spanClamped g.nc g.nr colSpan row rowSpan), [])
      | _, _ => refuse s .range
    else refuse s .range

/-- The rule of ZONE SET (R94, 11.3). -/
def zoneSetRule (payload : List Byte) (s : State) : Answer :=
  match payload with
  | [zone, enable, col, colSpan, row, rowSpan] =>
    zoneStore zone.toNat enable.toNat col.toNat colSpan.toNat row.toNat rowSpan.toNat s
  | _ => refuse s .format

/-! ### Meanings -/

def execLocationStart (s : State) : Host.Outcome State Fault Refusal := live State.locationStart s

def execLocationEnd (s : State) : Host.Outcome State Fault Refusal := live State.locationEnd s

def execGeometrySet (s : State) : Host.Outcome State Fault Refusal :=
  live (State.handle (kindIs 0x07#8) geometrySetRule) s

def execSensorPlace (s : State) : Host.Outcome State Fault Refusal := live (State.handle isPlace sensorPlaceRule) s

def execSensorUnplace (s : State) : Host.Outcome State Fault Refusal :=
  live (State.handle isUnplace sensorUnplaceRule) s

def execWindowSet (s : State) : Host.Outcome State Fault Refusal := live (State.handle (kindIs 0x09#8) windowSetRule) s

def execZoneSet (s : State) : Host.Outcome State Fault Refusal := live (State.handle (kindIs 0x0A#8) zoneSetRule) s

end Sys2Proof.Machine
end

