-- ==== Sys2Proof/Machine/Pressure.lean ====
section
/-!
DEFINITION. The pressure monitor (01, 1.2 to 1.6): periods and conversions, scaling and range, filter, maximum,
stability and phase, the below-max span, and PRESSURE SET.
-/

namespace Sys2Proof.Machine

/-- The pressure period in ticks (01, 1.2). -/
def Pressure.periodTicks (p : Pressure) : Nat := Config.ticksPerMs * 2 ^ p.period.val

/-- The acquisition time in ticks (01, 1.2). -/
def Pressure.acqTicks (p : Pressure) : Nat := 5 * 2 ^ p.acq.val

/-- PRESSURE_PERIOD: the period timer expires, a new period and a conversion begin (R3). A step taken late
keeps the time beyond the period (log 25). -/
def State.pressurePeriod (s : State) : State :=
  if s.press.periodTicks ≤ s.press.periodTimer then
    { s with
      press :=
        { s.press with
          periodTimer := s.press.periodTimer - s.press.periodTicks
          converting := true } }
  else s

/-- The code in kilopascals (R5). -/
def Pressure.scale (p : Pressure) (code : Nat) : Nat :=
  if code ≤ p.zero then 0 else min p.span ((code - p.zero) * p.span / 4096)

/-- The range flag that a code sets (R6). -/
def Pressure.nextFlag (p : Pressure) (code : Nat) : RangeFlag :=
  if code = 4095 then .over
  else if code = 0 then if 0 < p.zero then .under else p.flag
  else .valid

/-- Is the P of this code used (R6)? -/
def Pressure.uses (p : Pressure) (code : Nat) : Bool := !(decide (code = 0) && decide (0 < p.zero))

/-- The history that a used P joins: emptied when the flag leaves UNDER (R6, R8). -/
def Pressure.historyFor (p : Pressure) (code : Nat) : List Nat :=
  if p.flag = .under ∧ p.nextFlag code ≠ .under then [] else p.history

/-- P joins the history; the oldest of four leaves first (R8). -/
def joinHistory (h : List Nat) (p : Nat) : List Nat :=
  if h.length < Config.historyLen then h ++ [p] else h.tail ++ [p]

/-- The floor of the mean of the history (R8). -/
def meanOf (h : List Nat) : Nat := h.sum / h.length

/-- Maximum and stability at a new P_filt (R9). -/
def Pressure.track (p : Pressure) (pf : Nat) : Pressure :=
  { p with
    pMax := max p.pMax pf
    stable := if absDiff pf p.pRef ≤ p.band then satAdd Config.sat16 p.stable 1 else 0
    pRef := if absDiff pf p.pRef ≤ p.band then p.pRef else pf }

/-- The phase chosen from the values of R9 and the P_prev that stood before (R10). -/
def Pressure.pick (p : Pressure) (pf : Nat) : Phase :=
  if p.holdCount ≤ p.stable then .hold
  else if p.floorLevel ≤ pf then .ramp
  else if p.pPrev ≤ pf then .reload
  else .unload

/-- The below-max span at a phase computation (R14). -/
def Pressure.moveSpan (p : Pressure) (pf : Nat) (phase : Phase) : Pressure :=
  if p.spanOpen then if phase = .ramp then { p with spanOpen := false } else p
  else if phase ≠ .ramp ∧ pf < p.floorLevel then { p with spanOpen := true, spanCount := 0, spanMarked := false }
  else p

/-- The monitor after a new P_filt: R9, R10, the hold index of R11, the span of R14. -/
def Pressure.compute (p : Pressure) (pf : Nat) : Pressure :=
  let q := p.track pf
  let phase := q.pick pf
  Pressure.moveSpan
    { q with
      pFilt := pf
      phase := phase
      pPrev := pf
      holdIndex := if phase = .hold ∧ p.phase ≠ .hold then satAdd Config.sat8 p.holdIndex 1 else p.holdIndex }
    pf phase

/-- A phase change queues a PHASE notice and, when the phase leaves HOLD, aborts a check taken in ARMED (R11, R148).
That the PHASE notice goes before the CHECK RESULT of the abort is the model's choice (DESIGN CHOICE, log 35). -/
def State.tellPhase (s : State) (old : Phase) : State :=
  if s.press.phase = old then s
  else
    let s1 := s.notify (.phaseChange s.tick old s.press.phase s.press.pFilt s.press.pMax s.press.holdIndex)
    match s1.chk.check with
    | none => s1
    | some ck => if old = .hold ∧ ck.startRun = .armed then s1.abortCheck .phase else s1

/-- A used P: filter, computation, phase change, then the drop test unless the history was empty before the value joined
or the range flag is UNDER (R8 to R12, R158, log 29). The notices of the phase go before the RUN notice of a drop
rupture, and a check that the phase aborts finds no freeze (DESIGN CHOICE, log 35). Under UNDER a code 0 with Z = 0 is
used, as the table of R6 says (DEDUCED, log 36). -/
def State.useP (s : State) (history : List Nat) (P : Nat) : State :=
  let joined := joinHistory history P
  let p0 := { s.press with history := joined, awaiting := false }
  let s1 := State.tellPhase { s with press := p0.compute (meanOf joined) } s.press.phase
  if history.isEmpty || decide (s.press.flag = .under) then s1 else s1.dropTest s.press.pPrev (meanOf joined)

/-- A change of the range flag: FAULT notice PRESSURE and change flag (R7). -/
def State.takeFlag (s : State) (code : Code) : State :=
  if s.press.nextFlag code.toNat = s.press.flag then s
  else
    State.notify
      { s with press := { s.press with flag := s.press.nextFlag code.toNat, flagChanged := true } }
      (.faultRange s.tick s.press.flag (s.press.nextFlag code.toNat) code)

/-- The code taken at the completion, as one change (R5 to R12). -/
def State.takeCode (s : State) (code : Code) : State :=
  let s1 := s.takeFlag code
  if s.press.uses code.toNat then s1.useP (s.press.historyFor code.toNat) (s.press.scale code.toNat) else s1

/-- CONVERSION_COMPLETE: the code is taken acquisition + 15 sample periods after the start of the period (R3). -/
def State.conversionComplete (code : Code) (s : State) : State :=
  if s.press.converting && decide (s.press.acqTicks + Config.convertTicks ≤ s.press.periodTimer) then
    State.takeCode { s with press := { s.press with converting := false } } code
  else s

/-! ### PRESSURE SET (R4) -/

/-- A numeric setting outside its range (R4, 1.2). -/
def pressureClamps (z sp h on : Nat) : Bool :=
  outside 0 4094 z || outside 1 262143 sp || outside 1 4095 h || outside 1 255 on

/-- PRESSURE SET after the FORMAT test (R4). -/
def pressureStore (per acq z sp b h on : Nat) (s : State) : Answer :=
  match s.configTest with
  | some r => refuse s r
  | none =>
    if hs : per < 6 ∧ acq < 4 then
      ({ s with
          press :=
            { s.press with
              period := ⟨per, hs.1⟩
              acq := ⟨acq, hs.2⟩
              zero := clampTo 0 4094 z
              span := clampTo 1 262143 sp
              band := b
              holdCount := clampTo 1 4095 h
              onsetCount := clampTo 1 255 on
              periodTimer := 0
              converting := true
              history := [] } },
        doneOr (pressureClamps z sp h on), [])
    else refuse s .range

/-- The rule of PRESSURE SET (R4, 11.3). -/
def pressureSetRule (payload : List Byte) (s : State) : Answer :=
  match payload with
  | [per, acq, z1, z0, s2, s1, s0, b1, b0, h1, h0, on] =>
    pressureStore per.toNat acq.toNat (nat16 z1 z0) (nat24 s2 s1 s0) (nat16 b1 b0) (nat16 h1 h0) on.toNat s
  | _ => refuse s .format

/-! ### Meanings -/

def execPressurePeriod (s : State) : Host.Outcome State Fault Refusal := live State.pressurePeriod s

def execConversionComplete (code : Code) (s : State) : Host.Outcome State Fault Refusal :=
  live (State.conversionComplete code) s

def execPressureSet (s : State) : Host.Outcome State Fault Refusal :=
  live (State.handle (kindIs 0x06#8) pressureSetRule) s

end Sys2Proof.Machine
end

