-- ==== Sys2Proof/Machine/Report.lean ====
section
/-!
DEFINITION. The report unit's own steps (10): the end of a frame on TXD, HRDY, the age limit, the summary timer, and
REPORT SET. Queueing and the arbiter stand in Machine/Reporting.lean.
-/

namespace Sys2Proof.Machine

/-- The arbiter chooses with the run state and the tick as they stand (R187). -/
def State.choose (s : State) : State := { s with rep := s.rep.choose s.ctl.run s.tick }

/-- FRAME_SENT: the transmitter becomes IDLE and chooses again (R187). -/
def State.frameSent (s : State) : State :=
  if s.rep.tx.isSome then State.choose { s with rep := { s.rep with tx := none } } else s

/-- The HRDY pin stands at this level. -/
def State.setHrdy (s : State) (level : Bool) : State := { s with rep := { s.rep with hrdy := level } }

/-- HRDY_ASSERTED: the pin changes; when it becomes asserted the transmitter chooses (R187, log 6). In a full reset
the pin alone changes (R163). -/
def State.hrdyChange (level : Bool) (s : State) : State :=
  if level && !s.rep.hrdy && !s.inReset then (s.setHrdy true).choose else s.setHrdy level

/-- AGE_LIMIT: the oldest record has reached the age limit while ARMED (R187, R188). -/
def State.ageLimit (s : State) : State := if s.ctl.run = .armed ∧ s.rep.aged s.tick then s.choose else s

/-! ### Summaries (R186) -/

/-- The counters that a summary differs against its snapshot (R186). -/
def State.counts (s : State) : Snapshot where
  hits := Vector.ofFn fun c =>
    { ended := (s.ch c).ended
      lone := (s.ch c).lone
      dropped := (s.ch c).dropped }
  numbered := s.ctl.numbered
  located := s.ctl.located

/-- The counts since the previous summary (R186). -/
def HitCounts.since (now old : HitCounts) : HitCounts where
  ended := now.ended - old.ended
  lone := now.lone - old.lone
  dropped := now.dropped - old.dropped

/-- The SUMMARY notice (R186). -/
def State.buildSummary (s : State) : Notice :=
  .summary s.tick s.ctl.run s.rep.level
    (Vector.ofFn fun c => HitCounts.since s.counts.hits[c] s.rep.snapshot.hits[c])
    (s.counts.numbered - s.rep.snapshot.numbered) (s.counts.located - s.rep.snapshot.located)
    s.levels s.press.pFilt s.press.phase s.rep.noticesLost s.rep.eventsLost s.rep.hitsLost

/-- The summary period in sample periods (R186). -/
def Report.periodTicks (r : Report) : Nat := Config.ticksPerMs * r.period

/-- SUMMARY_TIMER: the timer has counted the period; a summary is built and queued, and the timer goes on from the
rest. A summary that enters replaces the snapshot (R186, log 25). -/
def State.summaryTimer (s : State) : State :=
  if s.rep.period ≠ 0 ∧ s.rep.periodTicks ≤ s.rep.timer then
    State.notify
      { s with
        rep :=
          { s.rep with
            timer := s.rep.timer - s.rep.periodTicks
            snapshot := if s.rep.notices.length < Config.noticeCap then s.counts else s.rep.snapshot } }
      s.buildSummary
  else s

/-! ### REPORT SET (R185) -/

/-- A summary period as applied (R185). -/
def clampPeriod (p : Nat) : Nat := if p = 0 then 0 else clampTo 100 60000 p

/-- The six settings, a restarted summary timer, and the level brought down to the ceiling (R184, R185). -/
def Report.configure (r : Report) (ceiling : Detail) (high low trigger age period : Nat) : Report :=
  { r with
    ceiling := ceiling
    high := clampTo 1 256 high
    low := low
    trigger := clampTo 1 16 trigger
    age := clampTo 1 1000 age
    period := clampPeriod period
    timer := 0
    level := if ceiling.below r.level then ceiling else r.level }

/-- Was a value of a REPORT SET changed (R185)? -/
def reportClamped (high trigger age period : Nat) : Bool :=
  outside 1 256 high || outside 1 16 trigger || outside 1 1000 age || decide (clampPeriod period ≠ period)

/-- REPORT SET after the FORMAT test (R185). -/
def reportStore (ceiling high low trigger age period : Nat) (s : State) : Answer :=
  if s.ctl.run = .freezing then refuse s .busy
  else
    match detailOf ceiling with
    | none => refuse s .range
    | some d =>
      if low < high then
        ({ s with rep := s.rep.configure d high low trigger age period },
          doneOr (reportClamped high trigger age period), [])
      else refuse s .range

/-- The rule of REPORT SET (R185, 11.3). -/
def reportSetRule (payload : List Byte) (s : State) : Answer :=
  match payload with
  | [ceiling, h1, h0, low, trigger, a1, a0, p1, p0] =>
    reportStore ceiling.toNat (nat16 h1 h0) low.toNat trigger.toNat (nat16 a1 a0) (nat16 p1 p0) s
  | _ => refuse s .format

/-! ### Meanings -/

def execFrameSent (s : State) : Host.Outcome State Fault Refusal := live State.frameSent s

def execHrdyAsserted (level : Bool) (s : State) : Host.Outcome State Fault Refusal := .next (s.hrdyChange level)

def execAgeLimit (s : State) : Host.Outcome State Fault Refusal := live State.ageLimit s

def execSummaryTimer (s : State) : Host.Outcome State Fault Refusal := live State.summaryTimer s

def execReportSet (s : State) : Host.Outcome State Fault Refusal :=
  live (State.handle (kindIs 0x0E#8) reportSetRule) s

end Sys2Proof.Machine
end

