-- ==== Sys2Proof/Machine/Requests.lean ====
section
/-!
DEFINITION. The two requests that belong to the link itself: IDENTIFY and STATUS (09, 9.6).
-/

namespace Sys2Proof.Machine

/-- The rule of IDENTIFY: part code, revision, channels, payload limit, line rate (R176, 11.4). -/
def identifyRule (payload : List Byte) (s : State) : Answer :=
  noPayload
    (fun s => (s, .done, be 2 0x4E16 ++ be 1 1 ++ be 1 16 ++ be 2 Config.payloadMax ++ be 1 s.link.rate.toNat))
    payload s

/-- Check state and check kind as STATUS gives them (R132, R177, 11.2). -/
def State.checkCodes (s : State) : List Byte :=
  match s.chk.check with
  | none => be 1 0 ++ be 1 0
  | some ck => be 1 (if ck.running then 2 else 1) ++ be 1 ck.kind.code

/-- The pressure monitor's part of a STATUS reply (R17, R177). -/
def Pressure.statusBytes (p : Pressure) : List Byte :=
  be 3 p.pFilt ++ be 3 p.pMax ++ be 1 p.phase.code ++ be 1 p.holdIndex ++ be 1 p.flag.code
    ++ be 1 p.spanOpen.toNat ++ be 2 (p.onsetRatio.getD 0) ++ be 1 p.onsetRatio.isSome.toNat

/-- The link's counters in code order (R177). -/
def Link.statusBytes (l : Link) : List Byte :=
  be 2 l.framing ++ be 2 l.overrun ++ be 2 l.crc ++ be 2 l.length ++ be 2 l.truncated ++ be 2 l.brk

/-- The reply data of STATUS (R177, R178, 11.4). -/
def State.statusData (s : State) : List Byte :=
  be 1 s.ctl.run.code ++ be 1 (freezeCode s.ctl.freeze) ++ be 1 (testCode s.ctl.freeze) ++ be 6 s.tick
    ++ s.press.statusBytes ++ be 1 s.rep.level.code ++ levelBytes s.levels ++ s.checkCodes ++ s.link.statusBytes
    ++ be 2 s.faultFlags ++ be 1 s.otherFlags

/-- The rule of STATUS: every value at the take, and the change flags cleared with it (R177, R178). -/
def statusRule (payload : List Byte) (s : State) : Answer :=
  noPayload (fun s => (s.clearFlags, .done, s.statusData)) payload s

/-! ### Meanings -/

def execIdentify (s : State) : Host.Outcome State Fault Refusal := live (State.handle (kindIs 0x01#8) identifyRule) s

def execStatus (s : State) : Host.Outcome State Fault Refusal := live (State.handle (kindIs 0x02#8) statusRule) s

end Sys2Proof.Machine
end

