-- ==== Sys2Proof/Machine/RunControl.lean ====
section
/-!
DEFINITION. Run control (08): the drain, ARM, STOP, RUPTURE SET, RESET RUN and the full reset. The entry to FREEZING,
the clip test and the drop test are shared operations of Machine/Ops.lean.
-/

namespace Sys2Proof.Machine

/-! ### The drain (R160) -/

/-- List, associator and locator have nothing left, no hit is still to be cut and no offer waits (R55, R160). -/
def State.drained (s : State) : Bool :=
  !s.anyHit && s.offers.isEmpty && s.hitList.isEmpty && s.assoc.openEvent.isNone && s.loc.queue.isEmpty
    && s.loc.busy.isNone

/-- A counter summed over the channels, saturated at its field (R160, R191). -/
def State.sumCounts (s : State) (f : Channel → Nat) : Nat :=
  min Config.sat32 (allChans.map fun c => f (s.ch c)).sum

/-- The final counts of the arming (R160). -/
def State.drainDetail (s : State) : RunDetail :=
  .drain s.ctl.freeze (s.sumCounts (·.ended)) (s.sumCounts (·.entered)) (s.sumCounts (·.dropped))
    (s.sumCounts (·.lone)) s.ctl.numbered s.ctl.located s.assoc.lastEvent

/-- Run control queues a RUN notice about the move from `before` to the present run state (R164). -/
def State.tellRun (s : State) (cause : RunCause) (before : RunState) (detail : RunDetail) : State :=
  s.notify (.run cause s.ctl.run before s.tick s.assoc.eventNo detail)

/-- The run state replaced. -/
def State.setRun (s : State) (r : RunState) : State := { s with ctl := { s.ctl with run := r } }

/-- DRAIN_COMPLETE (R160). -/
def State.drainComplete (s : State) : State :=
  if s.ctl.run = .freezing ∧ s.drained then (s.setRun .frozen).tellRun .drain .freezing s.drainDetail else s

/-! ### What armings and the run reset set back -/

/-- The run values of the pressure monitor cleared (R16). -/
def Pressure.clearRun (p : Pressure) : Pressure :=
  { p with
    history := []
    pFilt := 0
    pMax := 0
    pPrev := 0
    pRef := 0
    stable := 0
    phase := .ramp
    holdIndex := 0
    spanOpen := false
    spanCount := 0
    spanMarked := false
    onsetRatio := none
    awaiting := true }

/-- A resumed run keeps the monitor's run values but the filter history (R16). -/
def Pressure.resume (p : Pressure) : Pressure := { p with history := [], awaiting := true }

/-- The four hit counters cleared (R43). -/
def Channel.clearHits (x : Channel) : Channel := { x with ended := 0, entered := 0, dropped := 0, lone := 0 }

/-- A channel at a fresh ARM or a run reset: an enabled one goes to QUIET, or to FAULT while its lane is lost; hits,
lockouts and pending thresholds end; the five counters become 0 (R43). -/
def Channel.restart (x : Channel) : Channel :=
  { x.clearHits with
    state :=
      if x.cfg.enable then
        match x.lane with
        | .good => .quiet
        | .lost => .fault
      else .off
    pendingThr := none
    settleDue := false
    faults := 0 }

/-- The associator at a fresh ARM or a run reset: the parameters are kept (R84). -/
def Assoc.restart (a : Assoc) : Assoc :=
  { a with openEvent := none, lockoutUntil := 0, position := 0, eventNo := 1, lastEvent := 0 }

/-- The associator at ARM RESUME (R84). -/
def Assoc.resume (a : Assoc) (tick : Nat) : Assoc := { a with openEvent := none, lockoutUntil := 0, position := tick }

/-- The locator at an arming or a run reset: queue and location discarded, the geometry kept (R108, R110). -/
def Locator.restart (l : Locator) : Locator := { l with queue := [], busy := none }

/-- Run control at an arming or a run reset (R165). -/
def RunCtl.restart (k : RunCtl) (run : RunState) : RunCtl :=
  { k with
    run := run
    freeze := none
    clipTicks := Vector.replicate 16 none
    numbered := 0
    located := 0 }

/-- The report unit at a fresh ARM or a run reset: the data queue emptied, the level at the ceiling, the snapshot
zero (R186, R190). -/
def Report.restart (r : Report) : Report := { r with data := [], level := r.ceiling, snapshot := Snapshot.zero }

/-- The changes that a fresh ARM and a run reset have in common (R153, R162): the run enters `run`. -/
def State.restart (s : State) (run : RunState) : State :=
  { s with
    tick := 0
    press := s.press.clearRun
    chans := Vector.ofFn fun c => Channel.restart s.chans[c]
    hitList := []
    dropRange := none
    offers := []
    assoc := s.assoc.restart
    loc := s.loc.restart
    map := s.map.clear
    ctl := s.ctl.restart run
    rep := s.rep.restart }

/-! ### ARM (R152 to R154) -/

/-- Tests 2 to 4 of ARM (R152). -/
def State.armTest (s : State) : Option Result :=
  if s.ctl.run = .freezing then some .busy
  else if s.chk.check.isSome then some .busy
  else if s.ctl.run = .armed then some .state
  else none

/-- A fresh ARM is taken (R153). -/
def State.armFresh (s : State) : State := (s.restart .armed).tellRun .arm s.ctl.run .plain

/-- What ARM RESUME changes (R154). -/
def State.resume (s : State) : State :=
  { s with
    press := s.press.resume
    chans := Vector.ofFn fun c => Channel.clearHits s.chans[c]
    hitList := []
    dropRange := none
    offers := []
    assoc := s.assoc.resume s.tick
    loc := s.loc.restart
    ctl := s.ctl.restart .armed
    rep := { s.rep with snapshot := Snapshot.zero } }

/-- ARM RESUME is taken; a kept tick at its maximum freezes the run at once (R154). -/
def State.armResume (s : State) : State :=
  let s1 := s.resume.tellRun .armResume s.ctl.run .plain
  if s.tick = Config.tickMax then s1.enterFreezing .timeLimit .timeLimit .plain else s1

/-- The rule of ARM with the mode FRESH, and with one that is not listed (R152). -/
def armRule (payload : List Byte) (s : State) : Answer :=
  match payload with
  | [mode] =>
    match s.armTest with
    | some r => refuse s r
    | none => if mode = 0#8 then (s.armFresh, .done, []) else refuse s .range
  | _ => refuse s .format

/-- The rule of ARM with the mode RESUME (R152). -/
def armResumeRule (_ : List Byte) (s : State) : Answer :=
  match s.armTest with
  | some r => refuse s r
  | none => if s.ctl.run = .idle then refuse s .state else (s.armResume, .done, [])

/-- An ARM that does not carry the mode RESUME (log 5). -/
def isArmFresh (f : Frame) : Bool := kindIs 0x0F#8 f && !kindOnly 0x0F#8 1#8 f

/-! ### STOP and RUPTURE SET (R155, R159) -/

/-- The rule of STOP (R155). -/
def stopRule (payload : List Byte) (s : State) : Answer :=
  noPayload
    (fun s => if s.ctl.run = .armed then (s.enterFreezing .stop .stop .plain, .done, []) else refuse s .state)
    payload s

/-- RC as applied: 1 becomes 2, more than 16 becomes 16, 0 stays 0 (R159). -/
def clampRc (rc : Nat) : Nat := if rc = 0 then 0 else clampTo 2 16 rc

/-- RUPTURE SET after the FORMAT test (R159). -/
def ruptureStore (rw rc d : Nat) (s : State) : Answer :=
  match s.configTest with
  | some r => refuse s r
  | none =>
    ({ s with ctl := { s.ctl with rw := clampTo 1 65535 rw, rc := clampRc rc, d := d } },
      doneOr (outside 1 65535 rw || decide (clampRc rc ≠ rc)), [])

/-- The rule of RUPTURE SET (R159, 11.3). -/
def ruptureSetRule (payload : List Byte) (s : State) : Answer :=
  match payload with
  | [w1, w0, rc, d1, d0] => ruptureStore (nat16 w1 w0) rc.toNat (nat16 d1 d0) s
  | _ => refuse s .format

/-! ### RESET RUN (R162) -/

/-- RESET RUN is taken: the hits that a freeze at this tick has still to cut are cut and the offers that wait are taken,
which can set the DROP flag (R49, R55, R61; DESIGN CHOICE, log 34); a check in progress is abandoned silently, and the
run restarts in IDLE (R148, R162). -/
def State.resetRun (s : State) : State :=
  State.tellRun { s.lastCuts.takeOffers.restart .idle with chk := { s.chk with check := none } } .resetRun s.ctl.run .plain

/-- The rule of RESET RUN (R162). -/
def resetRunRule (payload : List Byte) (s : State) : Answer := noPayload (fun s => (s.resetRun, .done, [])) payload s

/-! ### The full reset (R163) -/

/-- The run state before a full reset that begins, or is still held, now (R164, log 10). -/
def State.runBeforeReset (s : State) : RunState := if s.inReset then s.ctl.runBefore else s.ctl.run

/-- FULL_RESET: every block at its values, held while it lasts; the receiver in RESET, no conversion in flight, no
notice yet (R163, R179, R190). The pin HRDY is not the part's to reset. -/
def State.fullReset (s : State) : State :=
  { State.defaults with
    pending := s.pending
    inReset := true
    press := { Pressure.reset with converting := false }
    ctl := { RunCtl.reset with runBefore := s.runBeforeReset }
    link := { Link.reset with rx := .reset }
    rep := { Report.reset with hrdy := s.rep.hrdy } }

/-- FULL_RESET_END: BAUD1:0 set the line rate, a pressure period begins, the receiver hunts, and the RUN notice of
cause FULL_RESET is queued (R3, R163, R166, R179). -/
def State.fullResetEnd (baud : BitVec 2) (s : State) : State :=
  State.tellRun
    { State.defaults with
      pending := s.pending
      ctl := { RunCtl.reset with runBefore := s.ctl.runBefore }
      link := { Link.reset with rate := baud }
      rep := { Report.reset with hrdy := s.rep.hrdy } }
    .fullReset s.ctl.runBefore .plain

/-! ### Meanings -/

def execDrainComplete (s : State) : Host.Outcome State Fault Refusal := live State.drainComplete s

def execFullReset (s : State) : Host.Outcome State Fault Refusal := .next s.fullReset

def execFullResetEnd (baud : BitVec 2) (s : State) : Host.Outcome State Fault Refusal :=
  .next (if s.inReset then s.fullResetEnd baud else s)

def execResetRun (s : State) : Host.Outcome State Fault Refusal :=
  live (State.handle (kindIs 0x03#8) resetRunRule) s

def execArm (s : State) : Host.Outcome State Fault Refusal := live (State.handle isArmFresh armRule) s

def execArmResume (s : State) : Host.Outcome State Fault Refusal :=
  live (State.handle (kindOnly 0x0F#8 1#8) armResumeRule) s

def execStop (s : State) : Host.Outcome State Fault Refusal := live (State.handle (kindIs 0x10#8) stopRule) s

def execRuptureSet (s : State) : Host.Outcome State Fault Refusal :=
  live (State.handle (kindIs 0x0D#8) ruptureSetRule) s

end Sys2Proof.Machine
end

