-- ==== Sys2Proof/Machine/Timebase.lean ====
section
/-!
DEFINITION. The timebase (01, 1.1): TICK, one sample period for the counter and for every timer counted in sample
periods, and TIME_LIMIT.
-/

namespace Sys2Proof.Machine

/-- The tick counter after one more sample period; it holds at 2^48 − 1 (R1, R2). -/
def nextTick (t : Nat) : Nat := if t < Config.tickMax then t + 1 else t

/-- The PATTERN outcomes that have fallen due, taken before the next sample (log 4). -/
def State.decidePatterns (s : State) : State := allChans.foldl State.patternOutcome s

/-- The receiver's time since the last byte runs in FRAME only (R169). -/
def Link.tick (l : Link) : Link :=
  match l.rx with
  | .frame _ => { l with timer := l.timer + 1 }
  | _ => l

/-- The summary timer runs unless the period is 0 (R186). -/
def Report.tick (r : Report) : Report := if r.period = 0 then r else { r with timer := r.timer + 1 }

/-- The locator counts the sample periods of a location itself (R106). -/
def Locator.tick (l : Locator) : Locator :=
  { l with busy := l.busy.map fun b => { b with left := b.left - 1 } }

/-- One sample period in the counter and the timers; the lanes' next frames have not come yet (R1, R3, R106, R169,
R186; log 11). -/
def State.advance (s : State) : State :=
  { s with
    tick := nextTick s.tick
    press := { s.press with periodTimer := s.press.periodTimer + 1 }
    chans := Vector.ofFn fun c => { s.chans[c] with frameSeen := false }
    loc := s.loc.tick
    link := s.link.tick
    rep := s.rep.tick }

/-- TICK (R1): the sample period that ends is closed (log 34); a replay takes its next sample only when the counter
advances (R136, R146). -/
def State.tickStep (s : State) : State :=
  if s.tick < Config.tickMax then (s.closeSample.decidePatterns.advance).feedPattern
  else s.closeSample.decidePatterns.advance

/-- TIME_LIMIT (R2): in ARMED the held counter freezes the run. -/
def State.timeLimit (s : State) : State :=
  if s.ctl.run = .armed ∧ s.tick = Config.tickMax then s.enterFreezing .timeLimit .timeLimit .plain else s

/-! ### Meanings -/

def execTick (s : State) : Host.Outcome State Fault Refusal := live State.tickStep s

def execTimeLimit (s : State) : Host.Outcome State Fault Refusal := live State.timeLimit s

end Sys2Proof.Machine
end

