-- ==== Sys2Proof/Machine/Dispatch.lean ====
section
/-! DEFINITION. The dispatch of a command to its meaning: one arm per constructor of Instr, in the table's order. -/

namespace Sys2Proof.Machine

def exec (i : Instr) (s : State) : Host.Outcome State Fault Refusal :=
  match i with
  | .tick => Sys2Proof.Machine.execTick s
  | .timeLimit => Sys2Proof.Machine.execTimeLimit s
  | .pressurePeriod => Sys2Proof.Machine.execPressurePeriod s
  | .conversionComplete code => Sys2Proof.Machine.execConversionComplete code s
  | .laneSample c sample => Sys2Proof.Machine.execLaneSample c sample s
  | .missingFrame c => Sys2Proof.Machine.execMissingFrame c s
  | .peakFixed c => Sys2Proof.Machine.execPeakFixed c s
  | .hitEnd c => Sys2Proof.Machine.execHitEnd c s
  | .forcedEnd c => Sys2Proof.Machine.execForcedEnd c s
  | .lockoutEnd c => Sys2Proof.Machine.execLockoutEnd c s
  | .laneLost c => Sys2Proof.Machine.execLaneLost c s
  | .laneRecovered c => Sys2Proof.Machine.execLaneRecovered c s
  | .settlingComplete c => Sys2Proof.Machine.execSettlingComplete c s
  | .noiseBlockEnd c => Sys2Proof.Machine.execNoiseBlockEnd c s
  | .handOver => Sys2Proof.Machine.execHandOver s
  | .closeByHorizon => Sys2Proof.Machine.execCloseByHorizon s
  | .locationStart => Sys2Proof.Machine.execLocationStart s
  | .locationEnd => Sys2Proof.Machine.execLocationEnd s
  | .drainComplete => Sys2Proof.Machine.execDrainComplete s
  | .gatheringComplete => Sys2Proof.Machine.execGatheringComplete s
  | .pulse => Sys2Proof.Machine.execPulse s
  | .listeningWindowEnd => Sys2Proof.Machine.execListeningWindowEnd s
  | .checkComplete => Sys2Proof.Machine.execCheckComplete s
  | .patternOutcome c => Sys2Proof.Machine.execPatternOutcome c s
  | .frameReceived bytes => Sys2Proof.Machine.execFrameReceived bytes s
  | .framingError => Sys2Proof.Machine.execFramingError s
  | .truncated => Sys2Proof.Machine.execTruncated s
  | .lineBreak => Sys2Proof.Machine.execLineBreak s
  | .lineBreakEnd => Sys2Proof.Machine.execLineBreakEnd s
  | .hrdyAsserted level => Sys2Proof.Machine.execHrdyAsserted level s
  | .frameSent => Sys2Proof.Machine.execFrameSent s
  | .ageLimit => Sys2Proof.Machine.execAgeLimit s
  | .summaryTimer => Sys2Proof.Machine.execSummaryTimer s
  | .fullReset => Sys2Proof.Machine.execFullReset s
  | .fullResetEnd baud => Sys2Proof.Machine.execFullResetEnd baud s
  | .identify => Sys2Proof.Machine.execIdentify s
  | .status => Sys2Proof.Machine.execStatus s
  | .resetRun => Sys2Proof.Machine.execResetRun s
  | .channelSet => Sys2Proof.Machine.execChannelSet s
  | .channelGet => Sys2Proof.Machine.execChannelGet s
  | .pressureSet => Sys2Proof.Machine.execPressureSet s
  | .geometrySet => Sys2Proof.Machine.execGeometrySet s
  | .sensorPlace => Sys2Proof.Machine.execSensorPlace s
  | .sensorUnplace => Sys2Proof.Machine.execSensorUnplace s
  | .windowSet => Sys2Proof.Machine.execWindowSet s
  | .zoneSet => Sys2Proof.Machine.execZoneSet s
  | .associationSet => Sys2Proof.Machine.execAssociationSet s
  | .clusterSet => Sys2Proof.Machine.execClusterSet s
  | .ruptureSet => Sys2Proof.Machine.execRuptureSet s
  | .reportSet => Sys2Proof.Machine.execReportSet s
  | .arm => Sys2Proof.Machine.execArm s
  | .armResume => Sys2Proof.Machine.execArmResume s
  | .stop => Sys2Proof.Machine.execStop s
  | .alarmClear => Sys2Proof.Machine.execAlarmClear s
  | .mapClear => Sys2Proof.Machine.execMapClear s
  | .mapRead => Sys2Proof.Machine.execMapRead s
  | .zoneRead => Sys2Proof.Machine.execZoneRead s
  | .checkStartShort => Sys2Proof.Machine.execCheckStartShort s
  | .checkStartLong => Sys2Proof.Machine.execCheckStartLong s
  | .checkStartPattern => Sys2Proof.Machine.execCheckStartPattern s
  | .checkAbort => Sys2Proof.Machine.execCheckAbort s
  | .patternLoad => Sys2Proof.Machine.execPatternLoad s
  | .baselineRead => Sys2Proof.Machine.execBaselineRead s
  | .baselineReadLatest => Sys2Proof.Machine.execBaselineReadLatest s
  | .unknownKind => Sys2Proof.Machine.execUnknownKind s

end Sys2Proof.Machine
end

