-- ==== Sys2Proof/Safety.lean ====
section
/-!
DEFINITION. The terms in which claims about the machine are put: when the request handler can take a frame and what
a take leaves, fields laid end to end, when nothing of a channel is due, when an offer is in its turn and what it leaves,
what the cuts and an entry to FREEZING leave, what the close of a sample period takes, and the invariants that every step
keeps.
-/

namespace Sys2Proof.Machine

/-! ### Requests (R173, R174) -/

/-- The request handler can take the frame f: no reset is held, the reply slot is empty, and f is the older READY
frame, with `rest` behind it (R173). -/
structure State.Takes (s : State) (f : Frame) (rest : List Frame) : Prop where
  running : s.inReset = false
  slotEmpty : s.rep.reply = none
  older : s.link.ready = f :: rest

/-- The READY slots hold `rest` (R170). -/
def State.withReady (s : State) (rest : List Frame) : State := { s with link := { s.link with ready := rest } }

/-- Command i takes frame f at s: the state is then s1, with one reply of this result and data placed
after its effects and notices (R173, R174, log 19). -/
def Answers (i : Instr) (s : State) (f : Frame) (s1 : State) (r : Result) (data : List Byte) : Prop :=
  exec i s = .next (s1.answer f r data)

/-- Command i takes frame f at s and refuses it: nothing changes but the slot freed and the reply placed (R175). -/
def Refuses (i : Instr) (s : State) (f : Frame) (rest : List Frame) (r : Result) : Prop :=
  Answers i s f (s.withReady rest) r []

/-- The run state is one in which configuration requests are taken (R161, R175). -/
def State.Configurable (s : State) : Prop := s.ctl.run = .idle ∨ s.ctl.run = .frozen

/-! ### Layouts (chapter 11) -/

/-- Fields laid end to end: each a width in bytes and a value, sent most significant byte first (R191). -/
def fields (l : List (Nat × Nat)) : List Byte := l.flatMap fun f => be f.1 f.2

/-! ### Channels -/

/-- The sample of deadline d has been taken, in a channel whose frame of the present tick has been seen or not. -/
abbrev Reached (tick : Nat) (seen : Bool) (d : Nat) : Prop := d < tick ∨ (d = tick ∧ seen = true)

/-- The tick at which the hit h ends by itself: HDT after its last count, and no later than its maximum duration
(R35, R36). -/
def Hit.endsAt (h : Hit) (cfg : ChanCfg) : Nat := min (h.lastCount + cfg.hdt) (h.arrival + cfg.maxDur)

/-- No step of channel c has fallen due at its samples so far: no block's end, no settling, no end of a hit or a
lockout, no change of the lane's status (R19, R20, R27, R35, R36, R38, R40). -/
structure State.NothingDue (s : State) (c : Chan) : Prop where
  block : (s.ch c).blockPos < 4096
  settle : (s.ch c).settleDue = false
  hit : ∀ h, (s.ch c).state = .hit h → ¬Reached s.tick (s.ch c).frameSeen (h.endsAt (s.ch c).cfg)
  lockout : ∀ till, (s.ch c).state = .lockout till → ¬Reached s.tick (s.ch c).frameSeen till
  good : (s.ch c).lane = .good → (s.ch c).missingRun < 4
  lost : (s.ch c).lane = .lost → (s.ch c).goodRun < 64

/-- A pending threshold code becomes the threshold code: in FIXED mode the threshold, in FLOATING mode its floor (R25).
-/
def Channel.withPending (x : Channel) : Channel :=
  { x with
    cfg := match x.pendingThr with
      | some v => { x.cfg with thrCode := v }
      | none => x.cfg
    thr := match x.pendingThr with
      | some v => if x.cfg.mode = .fixed then v else max x.thr v
      | none => x.thr
    pendingThr := none }

/-- The record of a hit that is cut (R35, R37, R39). A hit whose own end falls at the sample of the cut ends by it: LONG
for the forced end, as R37 says, and no tag for the normal end (model's choice, log 15). -/
def State.cutRecord (s : State) (c : Chan) (h : Hit) : HitRec where
  channel := c
  arrival := h.arrival
  rise := min 65535 (h.peakTick - h.arrival)
  duration := h.lastCount - h.arrival
  counts := min 65535 h.counts
  amplitude := min 127 (ampCode h.peak + (s.ch c).cfg.refOffset)
  energy := min 4294967295 (h.energySum / 65536)
  stamp := h.stamp
  clipped := h.clipped
  long := decide (Reached s.tick (s.ch c).frameSeen (h.endsAt (s.ch c).cfg) ∧
    h.arrival + (s.ch c).cfg.maxDur < h.lastCount + (s.ch c).cfg.hdt)
  cut := !decide (Reached s.tick (s.ch c).frameSeen (h.endsAt (s.ch c).cfg))

/-! ### Offers of one sample (R48) -/

/-- The channels below c whose offer at this sample waits, or that can still make one: those in HIT, and those whose
sample, not yet come, may open a hit that a freeze then cuts (R31, R37, R48). -/
def State.rivals (s : State) (c : Chan) : List Chan :=
  allChans.filter fun b => decide (b < c) && ((match (s.ch b).state with
    | .off => false
    | .fault => false
    | .hit _ => true
    | _ => !(s.ch b).frameSeen) || s.offers.any fun r => decide (r.channel = b))

/-- The list can take an offer of channel c now: no lower-numbered channel can still offer at its sample, or the list
has places for all of them and for c. In FREEZING the offers wait for the last of the cuts (R48, log 34). -/
abbrev State.InTurn (s : State) (c : Chan) : Prop :=
  s.ctl.run ≠ .freezing ∧ (s.rivals c = [] ∨ s.hitList.length + (s.rivals c).length < 512)

/-- s after the offer of the record r by its channel, which is then x but for its counters: the record enters the list,
or a full list drops it; where it is not in its turn it waits, in channel order, and no counter changes yet (R42, R47 to
R49, R57, log 34). -/
def State.offered (s : State) (r : HitRec) (x : Channel) : State :=
  if s.InTurn r.channel then
    if s.hitList.length < 512 then
      State.setCh { s with hitList := insertEntry ⟨r, false⟩ s.hitList } r.channel
        { x with ended := min 4294967295 (x.ended + 1), entered := min 4294967295 (x.entered + 1) }
    else
      State.setCh
        { s with
          dropFlag := true
          dropRange := some (match s.dropRange with
            | none => ⟨r.arrival, some r.arrival⟩
            | some q => ⟨min q.low r.arrival, q.high.map (max r.arrival)⟩) } r.channel
        { x with ended := min 4294967295 (x.ended + 1), dropped := min 4294967295 (x.dropped + 1) }
  else State.setCh { s with offers := insertOffer r s.offers } r.channel x

/-- A saturating 32-bit counter after k more (R42). -/
def counted (k n : Nat) : Nat := if k = 0 then n else min 4294967295 (n + k)

/-- The waiting offers for which the list has room (R48). -/
def State.admittable (s : State) : List HitRec := s.offers.take (512 - s.hitList.length)

/-- The waiting offers that a full list drops (R48, R49). -/
def State.droppable (s : State) : List HitRec := s.offers.drop (512 - s.hitList.length)

/-- How many records of l are channel c's. -/
def recordsOf (c : Chan) (l : List HitRec) : Nat := l.countP fun r => decide (r.channel = c)

/-- s after the list has taken the waiting offers, in channel order: while it has room they enter it, and from then on
they are dropped (R42, R47 to R49, R57). -/
def State.admitted (s : State) : State :=
  State.mapCh
    { s with
      hitList := s.admittable.foldl (fun l r => insertEntry ⟨r, false⟩ l) s.hitList
      dropRange := s.droppable.foldl (fun q r => some (extendDrop r.arrival q)) s.dropRange
      dropFlag := s.dropFlag || !s.droppable.isEmpty
      offers := [] }
    fun c x => { x with
      ended := counted (recordsOf c s.offers) x.ended
      entered := counted (recordsOf c s.admittable) x.entered
      dropped := counted (recordsOf c s.droppable) x.dropped }

/-- s after the hit h of channel c has ended at the sample d by itself: the record offered, LOCKOUT through d + HLT, or
with HLT 0 QUIET, or TESTING where a check claims the channel and it has not been in FAULT since (R20), with a pending
threshold applied (R25, R35, R36, R38, R39). -/
def State.endedAt (s : State) (c : Chan) (h : Hit) (d : Nat) (long : Bool) : State :=
  s.offered
    ⟨c, h.arrival, min 65535 (h.peakTick - h.arrival), h.lastCount - h.arrival, min 65535 h.counts,
      min 127 (ampCode h.peak + (s.ch c).cfg.refOffset), min 4294967295 (h.energySum / 65536), h.stamp, h.clipped,
      long, false⟩
    { (if (s.ch c).cfg.hlt = 0 then (s.ch c).withPending else s.ch c) with
      state := if (s.ch c).cfg.hlt = 0 then (if s.claimed c ∧ (s.ch c).leftCheck = false then .testing else .quiet)
        else .lockout (d + (s.ch c).cfg.hlt) }

/-- Outside ARMED, with the tick counter at its maximum: a check in progress stays as it is (R2, R136, log 42). -/
def State.ChecksHeld (s : State) : Prop := 281474976710655 ≤ s.tick ∧ s.ctl.run ≠ .armed

/-- The check unit after the loss of a channel: the channel leaves the check, with the outcome LOST in a PATTERN check,
and every other value of the check stands (R138, R146, log 16). Outside ARMED, with the tick counter at its maximum, all
of the check stands (R2, R136, log 42). -/
def State.checkWithout (s : State) (c : Chan) : CheckUnit :=
  match s.chk.check with
  | none => s.chk
  | some ck => if ck.involved[c] = true ∧ ck.removed[c] = false ∧ (s.tick < 281474976710655 ∨ s.ctl.run = .armed) then
      { s.chk with check := some { ck with
        removed := ck.removed.set c.val true
        replay := ck.replay.set c.val { ck.replay[c] with outcome := some .lost } } }
    else s.chk

/-- An enabled channel after the loss of its lane (R19, R25). -/
def Channel.faulted (x : Channel) : Channel :=
  { x.withPending with
    lane := .lost
    goodRun := 0
    state := .fault
    faults := min 255 (x.faults + 1)
    faultChanged := true
    leftCheck := true }

/-- s after the loss of channel c's lane has cut its hit h (R19, R37, R39, R138). -/
def State.lostInHit (s : State) (c : Chan) (h : Hit) : State :=
  State.notify (State.offered { s with chk := s.checkWithout c } (s.cutRecord c h) (s.ch c).faulted)
    (.faultLost s.tick c (min 255 ((s.ch c).faults + 1)))

/-! ### The cuts and the entry to FREEZING (R55, R156) -/

/-- s after the cuts of a freeze in the channels p: every hit in progress there is cut and its record offered, to wait
with the offers that wait, in channel order, and its channel enters QUIET with a pending threshold applied (R25, R37,
R48, log 34). -/
def State.cutWhere (s : State) (p : Chan → Bool) : State :=
  State.mapCh
    { s with
      offers := (allChans.filter p).foldl (fun l c => match (s.ch c).state with
        | .hit h => insertOffer (s.cutRecord c h) l
        | _ => l) s.offers }
    fun c x => match x.state with
      | .hit _ => if p c then { x.withPending with state := .quiet } else x
      | _ => x

/-- s after the list has taken the offers of a freeze, unless a hit is still to be cut (R48, R55, log 34). -/
def State.afterCuts (s : State) : State := if s.anyHit then s else s.admitted

/-- s after an entry to FREEZING, but for the cuts: lockouts end with pending thresholds applied, the RUN notice is
queued, and a check in progress is aborted with the CHECK RESULT of reason RUN behind it (R25, R38, R58, R148, R156). -/
def State.entered (s : State) (why : FreezeReason) (cause : RunCause) (detail : RunDetail) : State :=
  (fun u : State => match s.chk.check with
    | none => u
    | some ck => State.notify
        (State.mapCh
          { u with
            chk := { s.chk with check := none }
            dropRange := if ck.startRun = .armed then closeSpan s.tick s.dropRange else s.dropRange }
          fun c x => if ck.involved[c] = true ∧ x.state = .testing then { x with state := .quiet } else x)
        (.checkResult ck.kind ck.startTick s.tick ck.startRun (.aborted .run)))
  (State.notify
    (State.mapCh { s with ctl := { s.ctl with run := .freezing, freeze := some why } } fun _ x => match x.state with
      | .lockout _ => { x.withPending with state := .quiet }
      | _ => x)
    (.run cause .freezing s.ctl.run s.tick s.assoc.eventNo detail))

/-- s after an entry to FREEZING: the hits in progress are cut at once in the channels that have taken their sample of
the tick of entry, which belongs to the hit; the others go on to that sample (R34, R37, R55, R156, R157, logs 34 and
40). -/
def State.frozen (s : State) (why : FreezeReason) (cause : RunCause) (detail : RunDetail) : State :=
  ((s.entered why cause detail).cutWhere fun c => (s.ch c).frameSeen).afterCuts

/-! ### The close of a sample period (logs 4 and 34) -/

/-- The commands that take every step due at a sample, channel by channel (log 4). -/
def closingCommands : List Instr :=
  allChans.flatMap fun c => [.noiseBlockEnd c, .settlingComplete c, .hitEnd c, .forcedEnd c, .lockoutEnd c, .laneLost c,
    .laneRecovered c]

/-- The commands cs, one after another, lead from s to t. -/
def Runs : List Instr → State → State → Prop
  | [], s, t => t = s
  | c :: cs, s, t => ∃ u, exec c s = .next u ∧ Runs cs u t

/-- s once no channel has a sample of this period still to take, with the hits that a freeze has still to cut then cut
(R55). -/
def State.sampled (s : State) : State :=
  if s.ctl.run = .freezing then (s.mapCh fun _ x => { x with frameSeen := true }).cutWhere fun _ => true
  else s.mapCh fun _ x => { x with frameSeen := true }

/-- The close of this sample period takes no step and no offer. -/
structure State.NothingToClose (s : State) : Prop where
  due : ∀ c, s.sampled.NothingDue c
  offers : s.offers = []
  cuts : s.ctl.run = .freezing → ∀ c h, (s.ch c).state ≠ .hit h

/-! ### Invariants -/

/-- The tick counter and every queue and list that the spec bounds are within their bounds, and the detail level does
not exceed the ceiling (R2, R44, R104, R170, R181, R182, R184). -/
structure State.QueuesBounded (s : State) : Prop where
  tick : s.tick ≤ 281474976710655
  hitList : s.hitList.length ≤ 512
  locQueue : s.loc.queue.length ≤ 16
  /-- The two slots hold the READY frames and the one in assembly. -/
  slots : s.link.ready.length + s.link.assembling.toNat ≤ 2
  notices : s.rep.notices.length ≤ 16
  data : s.rep.data.length ≤ 256
  level : s.rep.ceiling.code ≤ s.rep.level.code

/-- Every counter of a channel is within its field (R18, R20, R42). -/
structure Channel.CountersBounded (x : Channel) : Prop where
  hits : x.ended ≤ 4294967295 ∧ x.entered ≤ 4294967295 ∧ x.dropped ≤ 4294967295 ∧ x.lone ≤ 4294967295
  faults : x.faults ≤ 255
  runs : x.missingRun ≤ 4 ∧ x.goodRun ≤ 64

/-- Every saturating counter is within its field: the channels' (R18, R20, R42), the stable count and the hold index
(R9, R11), the cells' and the zone table's (R113, R119), the receive errors' (R171, R172), the lost counters (R181,
R182) and the counts of the arming (R160). -/
structure State.CountersBounded (s : State) : Prop where
  channels : ∀ c, (s.ch c).CountersBounded
  pressure : s.press.stable ≤ 65535 ∧ s.press.holdIndex ≤ 255
  cells : ∀ x ∈ s.map.cells, x.events ≤ 65535 ∧ x.hold ≤ 65535 ∧ x.reload ≤ 65535 ∧ x.energy ≤ 4294967295
  zones : ∀ c : Chan, (s.map.zones[c]).events ≤ 65535 ∧ (s.map.zones[c]).hold ≤ 65535 ∧
    (s.map.zones[c]).reload ≤ 65535
  arming : s.ctl.numbered ≤ 4294967295 ∧ s.ctl.located ≤ 4294967295
  errors : s.link.framing ≤ 65535 ∧ s.link.overrun ≤ 65535 ∧ s.link.crc ≤ 65535 ∧ s.link.length ≤ 65535 ∧
    s.link.truncated ≤ 65535 ∧ s.link.brk ≤ 65535
  lost : s.rep.noticesLost ≤ 4294967295 ∧ s.rep.eventsLost ≤ 4294967295 ∧ s.rep.hitsLost ≤ 4294967295

/-- The states of the channels and the run state fit together (R19, R22, R27, R35, R139, R148, R151, R156, R161). -/
structure State.ChannelsLegal (s : State) : Prop where
  /-- A channel is OFF exactly when it is disabled. -/
  off : ∀ c, (s.ch c).state = .off ↔ (s.ch c).cfg.enable = false
  /-- A channel is in FAULT exactly when it is enabled with its lane LOST. -/
  fault : ∀ c, (s.ch c).state = .fault ↔ (s.ch c).cfg.enable = true ∧ (s.ch c).lane = .lost
  /-- Channels in LOCKOUT occur only in ARMED. -/
  lockout : ∀ c k, (s.ch c).state = .lockout k → s.ctl.run = .armed
  /-- Channels in HIT occur only in ARMED, and in FREEZING until they are cut. -/
  hit : ∀ c h, (s.ch c).state = .hit h → s.ctl.run = .armed ∨ s.ctl.run = .freezing
  /-- Offers wait only in ARMED and FREEZING. -/
  offers : s.offers ≠ [] → s.ctl.run = .armed ∨ s.ctl.run = .freezing
  /-- A channel in TESTING belongs to the check in progress. -/
  testing : ∀ c, (s.ch c).state = .testing → s.claimed c = true
  /-- A freeze reason stands exactly in FREEZING and FROZEN. -/
  freeze : s.ctl.freeze.isSome = true ↔ s.ctl.run = .freezing ∨ s.ctl.run = .frozen
  /-- No check is in progress in FREEZING. -/
  check : s.ctl.run = .freezing → s.chk.check = none
  /-- A check in progress began in the run state that still stands. -/
  began : ∀ ck, s.chk.check = some ck → ck.startRun = s.ctl.run

/-- The open event and what lies between the hit list and the map (R65, R75, R83, R109). -/
structure State.EventsLegal (s : State) : Prop where
  /-- With no event open no entry is taken. -/
  closed : s.assoc.openEvent = none → s.taken = []
  /-- An event holds at most 8 members. -/
  members : s.taken.length ≤ 8
  /-- No event holds two members from the same channel. -/
  channels : (s.taken.map (·.channel)).Nodup
  /-- Every member's arrival lies within the window. -/
  window : ∀ o, s.assoc.openEvent = some o → ∀ r ∈ s.taken, r.arrival ≤ o.windowEnd
  /-- The event number counter is 1 to 2^32 − 1. -/
  number : 1 ≤ s.assoc.eventNo ∧ s.assoc.eventNo ≤ 4294967295
  /-- In IDLE and FROZEN nothing is left in the list, the associator and the locator. -/
  still : s.ctl.run = .idle ∨ s.ctl.run = .frozen →
    s.hitList = [] ∧ s.assoc.openEvent = none ∧ s.loc.queue = [] ∧ s.loc.busy = none

/-- The hit list stands in order of arrival, then channel, with the taken entries in front; every taken entry is earlier
than the horizon (R44, R46, R50, R52, R53). -/
structure State.ListLegal (s : State) : Prop where
  order : s.hitList.Pairwise fun a b => a.record.arrival < b.record.arrival ∨
    (a.record.arrival = b.record.arrival ∧ a.record.channel ≤ b.record.channel)
  front : s.hitList.Pairwise fun a b => b.taken = true → a.taken = true
  settled : ∀ e ∈ s.hitList, e.taken = true → ∀ h, s.horizon = some h → e.record.arrival < h

/-- A rectangle of cells lies in an nc × nr grid (R92, R94). -/
structure Rect.Fits (r : Rect) (nc nr : Nat) : Prop where
  col : r.col < nc
  row : r.row < nr
  cols : 1 ≤ r.colSpan ∧ r.colSpan ≤ nc
  rows : 1 ≤ r.rowSpan ∧ r.row + r.rowSpan ≤ nr

/-- A loaded geometry lies in its ranges (R86, R90, R92, R94). -/
structure Geometry.Legal (g : Geometry) : Prop where
  circ : 100 ≤ g.circ ∧ g.circ ≤ 65535
  len : 100 ≤ g.len ∧ g.len ≤ 65535
  nc : 4 ≤ g.nc ∧ g.nc ≤ 64
  nr : 1 ≤ g.nr ∧ g.nr ≤ 32
  pos : ∀ (c : Chan) (p : Pos), g.pos[c] = some p → p.s < g.circ ∧ p.z ≤ g.len
  win : ∀ c : Chan, (g.win[c]).Fits g.nc g.nr
  zones : ∀ n : Fin 8, ((g.zones[n]).rect).Fits g.nc g.nr

/-- The geometry, the velocity and the grid of the map (R86, R89, R112). -/
structure State.GridLegal (s : State) : Prop where
  /-- The map has the grid's cells, and none while no geometry is loaded. -/
  cells : s.map.cells.length = match s.loc.geom with
    | none => 0
    | some g => g.nc * g.nr
  /-- A loaded geometry is in its ranges. -/
  geom : ∀ g, s.loc.geom = some g → g.Legal
  /-- The velocity is in its range. -/
  v : 500 ≤ s.loc.v ∧ s.loc.v ≤ 9999

end Sys2Proof.Machine
end

