-- ==== Sys2Proof/Certificates/Slice0/Obligations.lean ====
section
/-!
DEFINITION. The statements for the provers. Equations of whole states carry the frame: every field that the right-hand
side does not name is unchanged.
-/

open Sys2Proof Sys2Proof.Machine

/-! ### The machine -/

/-- A step takes the command at the front of the queue and runs it with the queue's rest; with no command waiting the
block idles (model's choice, log 2). -/
def Obligations.StepRunsTheFrontCommand : Prop :=
  (∀ (s : State) (c : Instr) (rest : List Instr),
    s.pending = c :: rest → step s = exec c { s with pending := rest }) ∧
  ∀ s : State, s.pending = [] → step s = .next s

/-- Every command completes, and none touches the queue of waiting commands. While a full reset is held, nothing but
the reset's own commands and the HRDY pin changes the state (R163; that the other commands are ignored is the model's
reading, log 32). That every command answers a next state, also where its condition is not met, is the model's choice
(log 1). -/
def Obligations.EveryCommandCompletes : Prop :=
  (∀ (c : Instr) (s : State), ∃ t, exec c s = .next t ∧ t.pending = s.pending) ∧
  (∀ (c : Instr) (s : State), s.inReset = true → c ≠ .fullReset → (∀ b, c ≠ .fullResetEnd b) →
      (∀ l, c = .hrdyAsserted l → exec c s = .next { s with rep := { s.rep with hrdy := l } }) ∧
      ((∀ l, c ≠ .hrdyAsserted l) → exec c s = .next s))

/-! ### Timebase (01, 1.1) -/

/-- TICK advances the counter and every timer counted in sample periods, and opens the next sample period of every lane;
the check unit changes only where a PATTERN check is replaying (R1, R2, R3, R106, R169, R186). First it closes the
sample period: no sample is awaited, in FREEZING the hits still in progress are cut, every step due is taken as its
command takes it, the list takes the offers that wait, in channel order, and the PATTERN outcomes that are due are
decided (R19, R35 to R37, R48, R55, R146; logs 4 and 34). While the counter holds outside ARMED, a check in progress
that began outside ARMED stays as it is under every command but CHECK ABORT, RESET RUN and a full reset; a TICK that
brings the counter to 2^48 − 1 there decides the outcomes that are due and replays no sample (R2, R136, R146).
TIME_LIMIT freezes an ARMED run whose counter stands at 2^48 − 1, with the RUN notice of cause TIME_LIMIT, and does
nothing otherwise (R2, R156). That the hold begins with the sample period in which the counter reaches 2^48 − 1, and
that a lane loss in it leaves the check as it is, is log 42. That a TICK is one sample period of every lane is log 11,
that it takes what is due, PATTERN outcomes among it, is log 4, that TIME_LIMIT otherwise does nothing is log 1. Of a
cut, here and at the freeze of TIME_LIMIT, it is the model's choice that it waits for the sample of the tick of entry,
which belongs to the hit (logs 34 and 40), and that a hit whose normal end falls at the sample of its cut ends without a
tag (log 15). -/
def Obligations.TickCountsToItsLimit : Prop :=
  (∀ s : State, s.inReset = false → ∃ (u v w : State) (k : CheckUnit),
      Runs closingCommands s.sampled u ∧ v = u.admitted ∧ Runs (allChans.map Instr.patternOutcome) v w ∧
      exec .tick s = .next
        { v with
          tick := if s.tick < 281474976710655 then s.tick + 1 else s.tick
          press := { s.press with periodTimer := s.press.periodTimer + 1 }
          chans := Vector.ofFn fun c => { v.chans[c] with frameSeen := false }
          loc := { s.loc with busy := s.loc.busy.map fun b => { b with left := b.left - 1 } }
          link := { s.link with timer := match s.link.rx with
            | .frame _ => s.link.timer + 1
            | _ => s.link.timer }
          rep := { v.rep with timer := if s.rep.period = 0 then s.rep.timer else s.rep.timer + 1 }
          chk := k } ∧
      ((∀ ck, v.chk.check = some ck → ck.running = false ∨ ck.kind ≠ .pattern) → k = v.chk) ∧
      (281474976710655 ≤ s.tick + 1 → s.ctl.run ≠ .armed → k = w.chk) ∧ (s.ChecksHeld → k = v.chk)) ∧
  (∀ (c : Instr) (s t : State) (ck : Check), s.ChecksHeld → s.chk.check = some ck → ck.startRun ≠ .armed →
      exec c s = .next t → c ≠ .checkAbort → c ≠ .resetRun → c ≠ .fullReset → (∀ b, c ≠ .fullResetEnd b) →
      t.chk.check = some ck) ∧
  (∀ s : State, s.inReset = false →
      (s.ctl.run = .armed ∧ s.tick = 281474976710655 →
        exec .timeLimit s = .next (s.frozen .timeLimit .timeLimit .plain)) ∧
      (¬(s.ctl.run = .armed ∧ s.tick = 281474976710655) → exec .timeLimit s = .next s))

/-! ### Pressure (01) -/

/-- The pressure of a code: 0 at or below the zero code, else floor((code − Z) × S / 4096), which never exceeds S
(R5). -/
def Obligations.PressureIsScaled : Prop :=
  ∀ (p : Pressure) (code : Code),
    p.scale code.toNat = (if code.toNat ≤ p.zero then 0 else (code.toNat - p.zero) * p.span / 4096) ∧
    p.scale code.toNat ≤ p.span

/-- PRESSURE_PERIOD begins a new period and a conversion when the period timer has counted the period (R3).
CONVERSION_COMPLETE with a code of 0 above a zero code of 0: the flag becomes UNDER and no value changes; and a
completion that is not due changes nothing (R3, R6, R7). That a period or completion that is not due changes nothing
is log 1; that a late PRESSURE_PERIOD keeps the time beyond the period is log 25. -/
def Obligations.ConversionStartsAndMayBeUnused : Prop :=
  (∀ s : State, s.inReset = false →
      (5000 * 2 ^ s.press.period.val ≤ s.press.periodTimer → exec .pressurePeriod s = .next
        { s with press := { s.press with
            periodTimer := s.press.periodTimer - 5000 * 2 ^ s.press.period.val
            converting := true } }) ∧
      (s.press.periodTimer < 5000 * 2 ^ s.press.period.val → exec .pressurePeriod s = .next s)) ∧
  (∀ (s : State) (code : Code), s.inReset = false →
      (s.press.converting = true → 5 * 2 ^ s.press.acq.val + 15 ≤ s.press.periodTimer →
        code.toNat = 0 → 0 < s.press.zero →
        (s.press.flag = .under →
          exec (.conversionComplete code) s = .next { s with press := { s.press with converting := false } }) ∧
        (s.press.flag ≠ .under →
          exec (.conversionComplete code) s = .next (State.notify
            { s with press := { s.press with converting := false, flag := .under, flagChanged := true } }
            (.faultRange s.tick s.press.flag .under code)))) ∧
      (s.press.converting = false ∨ s.press.periodTimer < 5 * 2 ^ s.press.acq.val + 15 →
        exec (.conversionComplete code) s = .next s))

/-- CONVERSION_COMPLETE with a used code: a change of the range flag with its FAULT notice, then scaling, filter,
maximum, stability, phase, hold index and below-max span, a phase change with its PHASE notice, the abort of a check
taken in ARMED when the phase leaves HOLD, and the drop test, which may freeze the run (R5 to R12, R14, R148, R156,
R158). That no pair is handed to the drop test whenever the history was empty before the value joined is the model's
reading (log 29); so is the use of a code 0 under UNDER with Z = 0 (log 36), and the order of the notices of one
completion, range, phase, the CHECK RESULT of the abort, RUN (log 35), and that the abort and a released channel's own
sample of its tick go in the queue's order (log 43). Of the freeze of a drop it is the model's choice that the hits are
cut only with their sample of the tick of entry (log 34), that this sample belongs to the hit (log 40), and that a hit
whose normal end falls at the sample of its cut ends without a tag (log 15). -/
def Obligations.ConversionFormsValues : Prop :=
  ∀ (s : State) (code : Code) (P pf pMax stable : Nat) (flag : RangeFlag) (old joined : List Nat) (phase : Phase)
    (opens : Bool) (hold : Nat) (x s1 s2 s3 s4 : State),
    s.inReset = false → s.press.converting = true → 5 * 2 ^ s.press.acq.val + 15 ≤ s.press.periodTimer →
    ¬(code.toNat = 0 ∧ 0 < s.press.zero) →
    P = (if code.toNat ≤ s.press.zero then 0
      else min s.press.span ((code.toNat - s.press.zero) * s.press.span / 4096)) →
    flag = (if code.toNat = 4095 then .over else if code.toNat = 0 then s.press.flag else .valid) →
    old = (if s.press.flag = .under ∧ flag ≠ .under then [] else s.press.history) →
    joined = (if old.length < 4 then old ++ [P] else old.tail ++ [P]) →
    pf = joined.sum / joined.length → pMax = max s.press.pMax pf →
    stable = (if max pf s.press.pRef - min pf s.press.pRef ≤ s.press.band then min 65535 (s.press.stable + 1) else 0) →
    phase = (if s.press.holdCount ≤ stable then .hold
      else if pMax - s.press.band ≤ pf then .ramp
      else if s.press.pPrev ≤ pf then .reload
      else .unload) →
    hold = (if phase = .hold ∧ s.press.phase ≠ .hold then min 255 (s.press.holdIndex + 1) else s.press.holdIndex) →
    opens = decide (s.press.spanOpen = false ∧ phase ≠ .ramp ∧ pf < pMax - s.press.band) →
    x = { s with press := { s.press with converting := false } } →
    s1 = (if flag = s.press.flag then x else State.notify
      { x with press := { x.press with flag := flag, flagChanged := true } }
      (.faultRange s.tick s.press.flag flag code)) →
    s2 = { s1 with press := { s1.press with
      history := joined
      awaiting := false
      pFilt := pf
      pPrev := pf
      pMax := pMax
      stable := stable
      pRef := if stable = 0 then pf else s.press.pRef
      phase := phase
      holdIndex := hold
      spanOpen := opens || (s.press.spanOpen && decide (phase ≠ .ramp))
      spanCount := if opens then 0 else s.press.spanCount
      spanMarked := if opens then false else s.press.spanMarked } } →
    s3 = (if phase = s.press.phase then s2
      else s2.notify (.phaseChange s.tick s.press.phase phase pf pMax hold)) →
    s4 = (match s.chk.check with
      | none => s3
      | some ck => if s.press.phase = .hold ∧ phase ≠ .hold ∧ ck.startRun = .armed then State.notify
          (State.mapCh { s3 with chk := { s.chk with check := none }, dropRange := closeSpan s.tick s.dropRange }
            fun c y => if ck.involved[c] = true ∧ y.state = .testing then { y with state := .quiet } else y)
          (.checkResult ck.kind ck.startTick s.tick ck.startRun (.aborted .phase))
        else s3) →
    (old = [] ∨ flag = .under ∨ s.ctl.run ≠ .armed ∨ s.ctl.d = 0 ∨ s.press.pPrev - pf < s.ctl.d →
      exec (.conversionComplete code) s = .next s4) ∧
    (old ≠ [] → flag ≠ .under → s.ctl.run = .armed → s.ctl.d ≠ 0 → s.ctl.d ≤ s.press.pPrev - pf →
      exec (.conversionComplete code) s = .next
        (s4.frozen (.rupture .drop) .rupture (.drop s.press.pPrev pf s.ctl.d)))

/-- PRESSURE SET in IDLE or FROZEN: an unlisted selection is refused with RANGE; otherwise the seven settings are
taken, clamped, and the filter history and period start again (R4). -/
def Obligations.PressureSetTaken : Prop :=
  ∀ (s : State) (f : Frame) (rest : List Frame) (per acq z1 z0 s2 s1 s0 b1 b0 h1 h0 n : Byte),
    s.Takes f rest → s.Configurable → f.kind = 0x06#8 →
    f.payload = [per, acq, z1, z0, s2, s1, s0, b1, b0, h1, h0, n] →
    (5 < per.toNat ∨ 3 < acq.toNat → Refuses .pressureSet s f rest .range) ∧
    (∀ (hp : per.toNat < 6) (ha : acq.toNat < 4), Answers .pressureSet s f
      { s.withReady rest with press := { s.press with
          period := ⟨per.toNat, hp⟩
          acq := ⟨acq.toNat, ha⟩
          zero := min 4094 (z1.toNat * 256 + z0.toNat)
          span := max 1 (min 262143 ((s2.toNat * 256 + s1.toNat) * 256 + s0.toNat))
          band := b1.toNat * 256 + b0.toNat
          holdCount := max 1 (min 4095 (h1.toNat * 256 + h0.toNat))
          onsetCount := max 1 n.toNat
          periodTimer := 0
          converting := true
          history := [] } }
      (if 4094 < z1.toNat * 256 + z0.toNat ∨
          (s2.toNat * 256 + s1.toNat) * 256 + s0.toNat = 0 ∨ 262143 < (s2.toNat * 256 + s1.toNat) * 256 + s0.toNat ∨
          h1.toNat * 256 + h0.toNat = 0 ∨ 4095 < h1.toNat * 256 + h0.toNat ∨ n.toNat = 0
        then .clamped else .done) [])

/-! ### Report unit (10) -/

/-- A notice queued while fewer than 16 are held joins the tail, and the transmitter may choose; otherwise it is lost,
counted and flagged, and nothing else changes (R181, R187; that the choice is made at each queueing is log 18). The
frame of every notice: its kind, tag 00h, and its fields with their widths, and the payload's length (R149, R164, R186,
R191, 11.2, 11.6). The fields that are formed of several values, flags, masks and packed verdicts, and the enumeration
codes (R191, 11.2). -/
def Obligations.NoticeJoinsOrIsLost : Prop :=
  (∀ (s : State) (n : Notice),
    (s.rep.notices.length < 16 → s.notify n =
      { s with rep := Report.choose s.ctl.run s.tick { s.rep with notices := s.rep.notices ++ [n] } }) ∧
    (16 ≤ s.rep.notices.length → s.notify n =
      { s with rep := { s.rep with
          noticesLost := min 4294967295 (s.rep.noticesLost + 1)
          noticeLostFlag := true } })) ∧
  (∀ n : Notice, noticeFrame n = match n with
    | .cluster number col row index old new se sh sr pressure phase pMax line out holdq => frameBytes 0x50#8 0 (fields
        [(4, number), (1, col), (1, row), (2, index), (1, old.code), (1, new.code), (4, se), (4, sh), (4, sr),
          (3, pressure), (1, phase.code), (3, pMax), (1, line.val),
          (1, flagBits [out[0], out[1], out[2], out[3], holdq])])
    | .phaseChange tick old new pFilt pMax holdIndex => frameBytes 0x51#8 0 (fields
        [(1, 0), (6, tick), (1, old.code), (1, new.code), (3, pFilt), (3, pMax), (1, holdIndex)])
    | .phaseOnset arrival pOn ratio pMax phase holdIndex channel => frameBytes 0x51#8 0 (fields
        [(1, 1), (6, arrival), (3, pOn), (2, ratio), (3, pMax), (1, phase.code), (1, holdIndex), (1, channel.val)])
    | .faultRange tick old new code => frameBytes 0x52#8 0 (fields
        [(1, 0), (1, 0), (6, tick), (1, old.code), (1, new.code), (2, code.toNat)])
    | .faultLost tick channel count => frameBytes 0x52#8 0 (fields
        [(1, 1), (1, 1), (6, tick), (1, channel.val), (1, count), (2, 0)])
    | .faultRecovered tick channel count => frameBytes 0x52#8 0 (fields
        [(1, 1), (1, 2), (6, tick), (1, channel.val), (1, count), (2, 0)])
    | .faultCoupling tick channel old new => frameBytes 0x52#8 0 (fields
        [(1, 1), (1, 3), (6, tick), (1, channel.val), (1, old.code), (1, new.code), (1, 0)])
    | .run cause after before tick eventNo detail => frameBytes 0x53#8 0 (fields
        ([(1, cause.code), (1, after.code), (1, before.code), (6, tick), (4, eventNo)] ++ match detail with
          | .plain => []
          | .clip count rw channel counted => [(1, 1), (1, count), (2, rw), (1, channel.val), (2, maskOf counted)]
          | .drop pPrev pFilt d => [(1, 2), (3, pPrev), (3, pFilt), (2, d)]
          | .drain why ended entered dropped lone numbered located last =>
            [(1, freezeCode why), (1, testCode why), (4, ended), (4, entered), (4, dropped), (4, lone), (4, numbered),
              (4, located), (4, last)]))
    | .checkResult kind start finish run detail => frameBytes 0x54#8 0 (fields
        ([(1, kind.code)] ++ (match detail with
          | .aborted why => [(1, 1), (1, why.code)]
          | .pairs .. => [(1, 0), (1, 0)]
          | .pattern .. => [(1, 0), (1, 0)]) ++ [(6, start), (6, finish), (1, run.code)] ++ match detail with
          | .aborted _ => []
          | .pairs pulses measured responses degraded valid estimate adoption base verdicts changed =>
            [(1, pulses), (2, measured), (2, responses), (2, degraded), (2, valid), (2, estimate.getD 0),
              (1, adoptionCode adoption), (1, base.code), (4, packVerdicts verdicts), (2, maskOf changed)]
          | .pattern slot outcomes => (1, slot.val) :: allChans.flatMap fun c => match outcomes[c] with
            | none => [(16, 0)]
            | some (.hit index rise duration counts energy amplitude clipped long) =>
              [(1, 1), (1, index), (2, rise), (4, duration), (2, counts), (4, energy), (1, amplitude),
                (1, flagBits [clipped, long])]
            | some .silent => [(1, 2), (15, 0)]
            | some .lost => [(1, 3), (15, 0)]))
    | .linkError code counter rx => frameBytes 0x55#8 0 (fields [(1, code.code), (2, counter), (1, rx.code)])
    | .summary tick run level hits numbered located levels pFilt phase notices events lost => frameBytes 0x56#8 0
      (fields
        ([(6, tick), (1, run.code), (1, level.code)] ++
          (allChans.flatMap fun c => [(4, hits[c].ended), (4, hits[c].lone), (4, hits[c].dropped)]) ++
          [(4, numbered), (4, located), (2, levels.hitList), (1, levels.locQueue), (2, levels.data),
            (1, levels.notices), (3, pFilt), (1, phase.code), (4, notices), (4, events), (4, lost)]))) ∧
  (∀ n : Notice, (noticePayload n).length = match n with
    | .cluster .. => 31
    | .phaseChange .. => 16
    | .phaseOnset .. => 18
    | .faultRange .. => 12
    | .faultLost .. => 12
    | .faultRecovered .. => 12
    | .faultCoupling .. => 12
    | .run _ _ _ _ _ .plain => 13
    | .run _ _ _ _ _ (.clip ..) => 20
    | .run _ _ _ _ _ (.drop ..) => 22
    | .run _ _ _ _ _ (.drain ..) => 43
    | .checkResult _ _ _ _ (.aborted _) => 16
    | .checkResult _ _ _ _ (.pairs ..) => 35
    | .checkResult _ _ _ _ (.pattern ..) => 273
    | .linkError .. => 4
    | .summary .. => 230) ∧
  ((∀ (l : List Bool) (n : Nat), (flagBits l).testBit n = l.getD n false) ∧
    (∀ (v : Vector Bool 16) (c : Chan), maskOf v < 65536 ∧ (maskOf v).testBit c.val = v[c]) ∧
    ∀ (v : Vector Verdict 16) (c : Chan), packVerdicts v < 4294967296 ∧ packVerdicts v / 4 ^ c.val % 4 = (v[c]).code) ∧
  ([RunState.idle, .armed, .freezing, .frozen].map RunState.code = [0, 1, 2, 3] ∧
    [Phase.ramp, .hold, .reload, .unload].map Phase.code = [0, 1, 2, 3] ∧
    [RangeFlag.valid, .over, .under].map RangeFlag.code = [0, 1, 2] ∧
    (∀ (h : Hit) (till : Nat), [ChState.off, .settling, .quiet, .hit h, .lockout till, .testing, .fault].map
      ChState.code = [0, 1, 2, 3, 4, 5, 6]) ∧
    [Role.locate, .guard, .monitor].map Role.code = [0, 1, 2] ∧ [ThrMode.fixed, .floating].map ThrMode.code = [0, 1] ∧
    [LaneStatus.good, .lost].map LaneStatus.code = [0, 1] ∧
    [Verdict.unknown, .good, .poor].map Verdict.code = [0, 1, 2] ∧
    [CellLevel.clear, .watch, .active].map CellLevel.code = [0, 1, 2] ∧
    [Detail.full, .events, .summary].map Detail.code = [0, 1, 2] ∧
    [Policy.reportOnly, .excludePoor].map Policy.code = [0, 1] ∧
    [CheckKind.short, .long, .pattern].map CheckKind.code = [1, 2, 3] ∧
    (∀ t, [none, some .stop, some (.rupture t), some .timeLimit].map freezeCode = [0, 1, 2, 3]) ∧
    [none, some .stop, some (.rupture .clip), some (.rupture .drop), some .timeLimit].map testCode = [0, 0, 1, 2, 0] ∧
    [RunCause.arm, .armResume, .stop, .rupture, .timeLimit, .drain, .resetRun, .fullReset].map RunCause.code =
      [1, 2, 3, 4, 5, 6, 7, 8] ∧
    [RxError.framing, .overrun, .crc, .length, .truncated, .brk].map RxError.code = [1, 2, 3, 4, 5, 6] ∧
    (∀ got, [RxState.hunt, .sync, .frame got].map RxState.code = [0, 1, 2]) ∧
    [AbortReason.phase, .request, .run].map AbortReason.code = [1, 2, 3] ∧
    [none, some .adopted, some .notAsked, some .notIdle, some .tooFew].map adoptionCode = [0, 1, 2, 3, 4] ∧
    [BaseAction.kept, .filled, .rebased].map BaseAction.code = [0, 1, 2])

/-- The batch condition: in ARMED the trigger or the age of the oldest record, in FREEZING and FROZEN any record, and
never with an empty data queue (R188). A choice is made only while the transmitter is IDLE and HRDY asserted, and takes
the reply, else the oldest notice, else, when the batch condition holds, the records of one data frame, else nothing
(R187, R188). A data frame takes records from the head until it holds 16, or the next would bring its payload above 1020
bytes, or the queue is empty; a fill then at or below the low level steps the detail level up, not past the ceiling;
nothing else of the report unit changes (R184, R188). The bytes that go out: a field's bytes, most significant first;
the sync bytes, kind, tag, length, payload and CRC of a frame; a REPLY with the request's tag and, in its payload, the
kind answered, the result and the data; a DATA frame of records end to end, 30 bytes for a HIT record, and 23 + 28 ×
member count, plus 15 with a location part, for an EVENT record (R167, R173, R174, R191, R192, 11.2); the notice frames
and the records' fields stand in the statements on notices and on records. A reply placed in the slot lets the
transmitter choose (R187). -/
def Obligations.TransmitterArbitrates : Prop :=
  (∀ (tick : Nat) (r : Report) (q : Queued) (qs : List Queued),
      (r.data = [] → ∀ run, r.batchReady run tick = false) ∧
      (r.data = q :: qs →
        (r.batchReady .armed tick = true ↔ r.trigger ≤ r.data.length ∨ q.joined + 5000 * r.age ≤ tick) ∧
        r.batchReady .freezing tick = true ∧ r.batchReady .frozen tick = true)) ∧
  (∀ (run : RunState) (tick : Nat) (r : Report),
      (r.tx ≠ none ∨ r.hrdy = false → r.choose run tick = r) ∧
      (r.tx = none → r.hrdy = true →
        (∀ p, r.reply = some p → r.choose run tick = { r with reply := none, tx := some (replyFrame p) }) ∧
        (r.reply = none → ∀ n rest, r.notices = n :: rest →
          r.choose run tick = { r with notices := rest, tx := some (noticeFrame n) }) ∧
        (r.reply = none → r.notices = [] → (∀ q ∈ r.data, q.record.bytes.length ≤ 1020) →
          (r.batchReady run tick = true → ∃ (sent left : List Queued) (size : Nat), sent ≠ [] ∧ sent.length ≤ 16 ∧
            r.data = sent ++ left ∧ size = (sent.flatMap fun q => q.record.bytes).length ∧ size ≤ 1020 ∧
            (left = [] ∨ sent.length = 16 ∨ ∃ q qs, left = q :: qs ∧ 1020 < size + q.record.bytes.length) ∧
            r.choose run tick = { r with
              data := left
              tx := some (dataFrame sent)
              level := if left.length ≤ r.low ∧ r.ceiling.code < r.level.code then
                  (if r.level = .summary then .events else .full)
                else r.level }) ∧
          (r.batchReady run tick = false → r.choose run tick = r)))) ∧
  (∀ n v : Nat, (be n v).length = n ∧ beNat (be n v) = v % 256 ^ n) ∧
  (∀ (kind tag : Byte) (payload body : List Byte), body = [kind, tag] ++ be 2 payload.length ++ payload →
    frameBytes kind tag payload = [0xC3#8, 0x3C#8] ++ body ++ be 2 (crc16 body).toNat) ∧
  (∀ (s : State) (f : Frame) (r : Result) (data : List Byte), s.answer f r data =
    { s with rep := Report.choose s.ctl.run s.tick { s.rep with reply := some ⟨f.tag, f.kind, r, data⟩ } }) ∧
  (∀ (tag kind : Byte) (data : List Byte), [Result.done, .clamped, .state, .range, .busy, .format, .unknown].map
      (fun r => replyFrame ⟨tag, kind, r, data⟩) =
    [0, 1, 2, 3, 4, 5, 6].map fun code => frameBytes 0x40#8 tag (kind :: code :: data)) ∧
  (∀ qs : List Queued, dataFrame qs = frameBytes 0x41#8 0 (qs.flatMap fun q => q.record.bytes)) ∧
  (∀ r why, (DataRec.hit r why).bytes.length = 30) ∧
  ∀ e : EventRec, (DataRec.event e).bytes.length = 23 + 28 * e.members.length + if e.loc = none then 0 else 15

/-- A record handed over is withheld by the detail level, added at the tail with its tick, or lost to a full queue and
counted; an addition or a loss at or above the high level steps the detail level down (R182, R183, R184). The bytes of a
record, as it stands in a DATA frame: type, record length, and the fields of a HIT record, and of an EVENT record with
its member entries and its location part, whose zone is FFh where none is named, each with its width; the tags bytes,
and the codes of the event state, the unlocated reason and the lone reason (R39, R80, R81, R191, R192, 11.2, 11.5). -/
def Obligations.RecordHandedOver : Prop :=
  (∀ (s : State) (rec : DataRec),
    (s.rep.level = .summary ∨ (s.rep.level = .events ∧ ∃ h w, rec = .hit h w) → s.report rec = s) ∧
    (s.rep.level = .full ∨ (s.rep.level = .events ∧ ∃ e, rec = .event e) →
      (s.rep.data.length < 256 → s.report rec =
        { s with rep := Report.choose s.ctl.run s.tick { s.rep with
            data := s.rep.data ++ [⟨rec, s.tick⟩]
            level := if s.rep.high ≤ s.rep.data.length + 1 then
                (if s.rep.level = .full then .events else .summary)
              else s.rep.level } }) ∧
      (256 ≤ s.rep.data.length → ∀ e, rec = .event e → s.report rec =
        { s with rep := { s.rep with
            eventsLost := min 4294967295 (s.rep.eventsLost + 1)
            level := if s.rep.high ≤ s.rep.data.length then
                (if s.rep.level = .full then .events else .summary)
              else s.rep.level } }) ∧
      (256 ≤ s.rep.data.length → ∀ h w, rec = .hit h w → s.report rec =
        { s with rep := { s.rep with
            hitsLost := min 4294967295 (s.rep.hitsLost + 1)
            level := if s.rep.high ≤ s.rep.data.length then
                (if s.rep.level = .full then .events else .summary)
              else s.rep.level } }))) ∧
  (∀ (r : HitRec) (own : List (Nat × Nat)),
    own = [(2, r.rise), (4, r.duration), (2, r.counts), (1, r.amplitude), (4, r.energy), (3, r.stamp.pressure),
      (1, r.stamp.phase.code), (1, r.stamp.holdIndex),
      (1, flagBits [r.clipped, r.long, r.cut, r.stamp.belowMax, r.stamp.stale])] →
    (∀ why, (DataRec.hit r why).bytes =
      fields ([(1, 1), (2, 30), (1, r.channel.val), (6, r.arrival)] ++ own ++ [(1, why.code)])) ∧
    ∀ delta, memberBytes ⟨r, delta⟩ = fields ([(1, r.channel.val), (6, r.arrival)] ++ own ++ [(2, delta)])) ∧
  (∀ e : EventRec, (DataRec.event e).bytes = fields
      [(1, 2), (2, 23 + 28 * e.members.length + if e.loc = none then 0 else 15), (4, e.number), (1, e.state.code),
        (1, e.state.reasonCode), (1, e.firstChannel.val), (6, e.first), (3, e.pressure), (1, e.phase.code),
        (1, e.holdIndex), (1, flagBits [e.clipped, false, false, e.belowMax, e.stale, e.gap]), (1, e.members.length)] ++
    e.members.flatMap memberBytes ++ match e.loc with
      | none => []
      | some l => fields [(1, l.col), (1, l.row), (2, l.index), (4, l.residual), (4, l.mean), (1, l.quality),
          (1, l.edge.toNat), (1, match l.zone with | some z => z.val | none => 255)]) ∧
  (∀ z u, [EventState.located, .noFit, .excluded z, .unlocated u, .guarded].map EventState.code = [0, 1, 2, 3, 4] ∧
    [EventState.located, .noFit, .excluded z, .guarded].map EventState.reasonCode = [0, 0, 0, 0]) ∧
  [EventState.unlocated .noGeometry, .unlocated .tooFew, .unlocated .queueFull].map EventState.reasonCode = [1, 2, 3] ∧
  [LoneReason.lockout, .monitor, .repeated, .full, .single, .guard].map LoneReason.code = [1, 2, 3, 4, 5, 6]

/-- FRAME_SENT makes the transmitter IDLE and choose again; an IDLE transmitter has no frame to end. AGE_LIMIT makes
it choose when the oldest record has aged in ARMED. HRDY_ASSERTED records the pin, and its rise makes a choice (R187,
R188; the pin's level as an operand is log 6). That it otherwise does nothing is the model's choice (log 1). That IDLE
gives no batch condition is log 23. -/
def Obligations.TransmitterChooses : Prop :=
  ∀ s : State, s.inReset = false →
    (s.rep.tx ≠ none → exec .frameSent s = .next
      { s with rep := Report.choose s.ctl.run s.tick { s.rep with tx := none } }) ∧
    (s.rep.tx = none → exec .frameSent s = .next s) ∧
    (∀ q qs, s.rep.data = q :: qs → s.ctl.run = .armed → q.joined + 5000 * s.rep.age ≤ s.tick →
      exec .ageLimit s = .next { s with rep := s.rep.choose s.ctl.run s.tick }) ∧
    (∀ q qs, s.rep.data = q :: qs → (s.ctl.run ≠ .armed ∨ s.tick < q.joined + 5000 * s.rep.age) →
      exec .ageLimit s = .next s) ∧
    (s.rep.data = [] → exec .ageLimit s = .next s) ∧
    (s.rep.hrdy = false → exec (.hrdyAsserted true) s = .next
      { s with rep := Report.choose s.ctl.run s.tick { s.rep with hrdy := true } }) ∧
    (s.rep.hrdy = true → exec (.hrdyAsserted true) s = .next s) ∧
    exec (.hrdyAsserted false) s = .next { s with rep := { s.rep with hrdy := false } }

/-- SUMMARY_TIMER builds a SUMMARY with the counts since the snapshot, which the summary replaces if it enters; a
timer short of the period, or a period of 0, builds none (R186). That a timer short of the period builds none is log
1; that a late summary keeps the time beyond the period is log 25. -/
def Obligations.SummaryBuilt : Prop :=
  ∀ s : State, s.inReset = false →
    (s.rep.period = 0 ∨ s.rep.timer < 5000 * s.rep.period → exec .summaryTimer s = .next s) ∧
    (s.rep.period ≠ 0 → 5000 * s.rep.period ≤ s.rep.timer → ∀ now : Snapshot,
      now = ⟨Vector.ofFn fun c => ⟨(s.ch c).ended, (s.ch c).lone, (s.ch c).dropped⟩, s.ctl.numbered, s.ctl.located⟩ →
      exec .summaryTimer s = .next (State.notify
        { s with rep := { s.rep with
            timer := s.rep.timer - 5000 * s.rep.period
            snapshot := if s.rep.notices.length < 16 then now else s.rep.snapshot } }
        (.summary s.tick s.ctl.run s.rep.level
          (Vector.ofFn fun c => ⟨now.hits[c].ended - s.rep.snapshot.hits[c].ended,
            now.hits[c].lone - s.rep.snapshot.hits[c].lone, now.hits[c].dropped - s.rep.snapshot.hits[c].dropped⟩)
          (now.numbered - s.rep.snapshot.numbered) (now.located - s.rep.snapshot.located)
          ⟨s.hitList.length, s.loc.queue.length, s.rep.data.length, s.rep.notices.length⟩
          s.press.pFilt s.press.phase s.rep.noticesLost s.rep.eventsLost s.rep.hitsLost)))

/-- REPORT SET by its tests: FORMAT, BUSY in FREEZING, RANGE; otherwise the six settings are taken, clamped, the
summary timer starts again, and the level is brought down to the ceiling (R185). -/
def Obligations.ReportSetByItsTests : Prop :=
  ∀ (s : State) (f : Frame) (rest : List Frame), s.Takes f rest → f.kind = 0x0E#8 →
    (f.payload.length ≠ 9 → Refuses .reportSet s f rest .format) ∧
    ∀ c h1 h0 l b a1 a0 p1 p0 : Byte, f.payload = [c, h1, h0, l, b, a1, a0, p1, p0] →
      (s.ctl.run = .freezing → Refuses .reportSet s f rest .busy) ∧
      (s.ctl.run ≠ .freezing →
        (2 < c.toNat ∨ h1.toNat * 256 + h0.toNat ≤ l.toNat → Refuses .reportSet s f rest .range) ∧
        (∀ d : Detail, c.toNat = d.code → l.toNat < h1.toNat * 256 + h0.toNat → ∀ age per : Nat,
          age = a1.toNat * 256 + a0.toNat → per = p1.toNat * 256 + p0.toNat →
          Answers .reportSet s f
            { s.withReady rest with rep := { s.rep with
                ceiling := d
                high := min 256 (h1.toNat * 256 + h0.toNat)
                low := l.toNat
                trigger := max 1 (min 16 b.toNat)
                age := max 1 (min 1000 age)
                period := if per = 0 then 0 else max 100 (min 60000 per)
                timer := 0
                level := if s.rep.level.code < d.code then d else s.rep.level } }
            (if 256 < h1.toNat * 256 + h0.toNat ∨ b.toNat = 0 ∨ 16 < b.toNat ∨ age = 0 ∨ 1000 < age ∨
              (1 ≤ per ∧ per < 100) ∨ 60000 < per then .clamped else .done) []))

/-! ### Channels (02) -/

/-- A sample of a channel in QUIET: without a count, or outside ARMED, it joins the noise block; a count in ARMED opens
a hit with the stamp as it stands (R18, R30, R31, R34, R40). That nothing of the channel is due is log 4; that the
opening sample spoils the noise block is log 13; that an onset's notice goes before the RUN notice of a rupture at the
same sample is log 35. Of the freeze of that rupture, in the hits it cuts, the deferred cuts (log 34), the sample of the
tick of entry (log 40) and the tag of a hit whose normal end falls at its cut (log 15) are the model's choice. -/
def Obligations.QuietSampleOpensHit : Prop :=
  ∀ (s : State) (c : Chan) (x y : Channel) (sample : Sample) (mag : Nat) (clip : Bool) (st : Stamp),
    s.inReset = false → s.ch c = x → x.frameSeen = false → s.NothingDue c → x.state = .quiet → x.lane = .good →
    mag = sample.toInt.natAbs → clip = decide (sample = 0x8000#16 ∨ sample = 0x7FFF#16) →
    st = ⟨s.press.pFilt, s.press.phase, s.press.holdIndex, decide (s.press.pFilt < s.press.pMax - s.press.band),
      decide (s.press.flag = .under) || s.press.awaiting⟩ →
    y = { x with
      missingRun := 0, prevMag := mag, frameSeen := true, blockPos := x.blockPos + 1
      blockSum := x.blockSum + mag } →
    (¬(s.ctl.run = .armed ∧ bigM x.thr ≤ mag ∧ x.prevMag < bigM x.thr) →
      exec (.laneSample c sample) s = .next (s.setCh c y)) ∧
    (s.ctl.run = .armed ∧ bigM x.thr ≤ mag ∧ x.prevMag < bigM x.thr → ∀ u : State,
      u = State.countOnset
        (s.setCh c { y with
          blockBad := true
          state := .hit ⟨s.tick, st, s.tick, 1, mag, s.tick, false, mag * mag, mag * mag, clip⟩ })
        c s.tick st →
      exec (.laneSample c sample) s = .next (if clip then u.clipOnset c else u))

/-- A hit offered to the onset count: it is counted in an open, unmarked span while its pressure lies below the
maximum and is not stale; at the onset count the span is marked, with a ratio and a notice unless Pmax is 0 (R14,
R15). -/
def Obligations.OnsetCounted : Prop :=
  ∀ (s : State) (c : Chan) (arrival : Nat) (st : Stamp),
    (s.press.spanOpen = false ∨ s.press.spanMarked = true ∨ st.belowMax = false ∨ st.stale = true →
      s.countOnset c arrival st = s) ∧
    (s.press.spanOpen = true → s.press.spanMarked = false → st.belowMax = true → st.stale = false →
      (s.press.spanCount + 1 < s.press.onsetCount →
        s.countOnset c arrival st = { s with press := { s.press with spanCount := s.press.spanCount + 1 } }) ∧
      (s.press.onsetCount ≤ s.press.spanCount + 1 → s.press.pMax = 0 →
        s.countOnset c arrival st =
          { s with press := { s.press with spanCount := s.press.spanCount + 1, spanMarked := true } }) ∧
      (s.press.onsetCount ≤ s.press.spanCount + 1 → s.press.pMax ≠ 0 →
        s.countOnset c arrival st = State.notify
          { s with press := { s.press with
              spanCount := s.press.spanCount + 1, spanMarked := true
              onsetRatio := some (1000 * st.pressure / s.press.pMax) } }
          (.phaseOnset arrival st.pressure (1000 * st.pressure / s.press.pMax) s.press.pMax st.phase st.holdIndex
            c)))

/-- A clip onset in ARMED: its tick is kept, and the run freezes when the channels with a clip onset within RW ticks
number at least RC, unless RC is 0; the RUN notice carries the count, RW, the channel and the channels counted (R34,
R156, R157, R164). How the freeze cuts the hits in progress is in part the model's choice: a channel that has not taken
its sample of the tick of entry is cut with that sample (log 34), which belongs to the hit (log 40), and a hit whose
normal end falls at the sample of its cut ends without a tag (log 15). -/
def Obligations.ClipTestFreezes : Prop :=
  ∀ (s : State) (c : Chan) (ticks : Vector (Option Nat) 16) (n : Nat),
    ticks = s.ctl.clipTicks.set c (some s.tick) →
    n = (allChans.filter fun d => match ticks[d] with
      | none => false
      | some u => decide (s.tick - s.ctl.rw ≤ u)).length →
    (s.ctl.run ≠ .armed → s.clipOnset c = s) ∧
    (s.ctl.run = .armed → s.ctl.rc = 0 ∨ n < s.ctl.rc →
      s.clipOnset c = { s with ctl := { s.ctl with clipTicks := ticks } }) ∧
    (s.ctl.run = .armed → s.ctl.rc ≠ 0 → s.ctl.rc ≤ n →
      ∀ counted : Vector Bool 16, (∀ d : Chan, counted[d] = match ticks[d] with
        | none => false
        | some u => decide (s.tick - s.ctl.rw ≤ u)) →
      s.clipOnset c = State.frozen { s with ctl := { s.ctl with clipTicks := ticks } } (.rupture .clip) .rupture
        (.clip n s.ctl.rw c counted))

/-- A sample of a hit in progress: the peak test under PDT, the running sum, a count with its tick and energy sum, and
the clip onset of the first clipped sample (R32, R33, R34). In FREEZING it is the sample of the tick of entry: its clip
onset is ignored, the hit is cut, and once no hit is left to be cut the list takes the offers in channel order (R37,
R48, R55, R157; that the offers wait is log 34, that the sample belongs to the hit is log 40, that a hit whose normal
end falls at the sample of its cut ends without a tag is log 15; so with the hits that the freeze of a clip rupture
cuts). That nothing of the channel is due is log 4; that the sample spoils the noise block is log 13; that the block's
position advances in HIT is the model's reading (log 14). -/
def Obligations.HitSampleMeasures : Prop :=
  ∀ (s : State) (c : Chan) (x : Channel) (h : Hit) (sample : Sample) (mag : Nat) (clip fixed : Bool),
    s.inReset = false → s.ch c = x → x.frameSeen = false → s.NothingDue c → x.state = .hit h → x.lane = .good →
    mag = sample.toInt.natAbs → clip = decide (sample = 0x8000#16 ∨ sample = 0x7FFF#16) →
    fixed = (h.peakFixed || decide (h.peakTick + x.cfg.pdt < s.tick)) →
    ∀ u : State, u = s.setCh c { x with
        missingRun := 0
        prevMag := mag
        frameSeen := true
        blockPos := x.blockPos + 1
        blockBad := true
        state := .hit { h with
          peakFixed := fixed
          peak := if fixed = false ∧ h.peak < mag then mag else h.peak
          peakTick := if fixed = false ∧ h.peak < mag then s.tick else h.peakTick
          running := h.running + mag * mag
          counts := if bigM x.thr ≤ mag ∧ x.prevMag < bigM x.thr then h.counts + 1 else h.counts
          lastCount := if bigM x.thr ≤ mag ∧ x.prevMag < bigM x.thr then s.tick else h.lastCount
          energySum := if bigM x.thr ≤ mag ∧ x.prevMag < bigM x.thr then h.running + mag * mag else h.energySum
          clipped := h.clipped || clip } } →
    (s.ctl.run ≠ .freezing →
      exec (.laneSample c sample) s = .next (if clip = true ∧ h.clipped = false then u.clipOnset c else u)) ∧
    (s.ctl.run = .freezing →
      exec (.laneSample c sample) s = .next (u.cutWhere fun b => decide (b = c)).afterCuts)

/-- A missing frame: the missing run grows to at most 4, a LOST lane's good run becomes 0, the sample counts as below
every threshold, the noise block is spoilt; nothing else of the channel changes, but a hit that a freeze has still to
cut is cut with it. One frame of a lane is taken in a sample period (R18, R40, R55; logs 11 and 34; that the frame
belongs to the hit it cuts is log 40, the tag of a hit whose normal end falls at its cut log 15). A sample of a channel
in OFF, FAULT, SETTLING or LOCKOUT: lane health, the previous sample, and the noise block (R18, R20, R27, R38, R40).
That nothing of the channel is due is log 4; which states measure a noise block is log 14. -/
def Obligations.FramesWithoutACountAreTaken : Prop :=
  (∀ (s : State) (c : Chan) (x : Channel), s.inReset = false → s.ch c = x →
      (x.frameSeen = false → s.NothingDue c → ∀ u, u = s.setCh c { x with
          missingRun := min 4 (x.missingRun + 1)
          goodRun := if x.lane = .lost then 0 else x.goodRun
          prevMag := 0
          frameSeen := true
          blockPos := if x.state = .off ∨ x.state = .fault then x.blockPos else x.blockPos + 1
          blockBad := if x.state = .off ∨ x.state = .fault then x.blockBad else true
          settleDue := decide (x.state = .settling ∧ 4096 ≤ x.blockPos + 1) } →
        ((∀ h, x.state ≠ .hit h) ∨ s.ctl.run ≠ .freezing → exec (.missingFrame c) s = .next u) ∧
        (∀ h, x.state = .hit h → s.ctl.run = .freezing →
          exec (.missingFrame c) s = .next (u.cutWhere fun b => decide (b = c)).afterCuts)) ∧
      (x.frameSeen = true → exec (.missingFrame c) s = .next s ∧ ∀ v, exec (.laneSample c v) s = .next s)) ∧
  (∀ (s : State) (c : Chan) (x y : Channel) (sample : Sample) (mag : Nat),
      s.inReset = false → s.ch c = x → x.frameSeen = false → s.NothingDue c → mag = sample.toInt.natAbs →
      y = { x with
        missingRun := 0
        goodRun := if x.lane = .lost then min 64 (x.goodRun + 1) else x.goodRun
        prevMag := mag
        frameSeen := true } →
      (x.state = .off ∨ x.state = .fault → exec (.laneSample c sample) s = .next (s.setCh c y)) ∧
      (x.state = .settling → exec (.laneSample c sample) s = .next (s.setCh c { y with
        blockPos := x.blockPos + 1
        blockSum := x.blockSum + mag
        settleDue := decide (4096 ≤ x.blockPos + 1) })) ∧
      (∀ till, x.state = .lockout till → exec (.laneSample c sample) s = .next (s.setCh c { y with
        blockPos := x.blockPos + 1
        blockBad := true })))

/-- PEAK_FIXED fixes the peak of a hit once more than PDT ticks have passed since the peak tick, and nothing else
(R32). NOISE_BLOCK_END after 4096 sample periods: a block with nothing but noise samples gives the noise code of its
mean, and a FLOATING threshold moves by at most 3 towards the clamped target; a spoilt block gives nothing; the next
block begins (R40, R41). That it otherwise does nothing is the model's choice (log 1). -/
def Obligations.PeakFixesAndNoiseBlockEnds : Prop :=
  (∀ (s : State) (c : Chan), s.inReset = false →
      (∀ h, (s.ch c).state = .hit h → exec (.peakFixed c) s = .next (s.setCh c { s.ch c with
        state := .hit { h with peakFixed := h.peakFixed || decide (h.peakTick + (s.ch c).cfg.pdt < s.tick) } })) ∧
      ((∀ h, (s.ch c).state ≠ .hit h) → exec (.peakFixed c) s = .next s)) ∧
  (∀ (s : State) (c : Chan) (x : Channel) (noise target : Nat), s.inReset = false → s.ch c = x →
      noise = ampCode (x.blockSum / 4096) → target = max x.cfg.thrCode (min 90 (noise + x.cfg.margin)) →
      (x.blockPos < 4096 → exec (.noiseBlockEnd c) s = .next s) ∧
      (4096 ≤ x.blockPos →
        (x.blockBad = true → exec (.noiseBlockEnd c) s = .next
          (s.setCh c { x with blockPos := 0, blockSum := 0, blockBad := false })) ∧
        (x.blockBad = false → exec (.noiseBlockEnd c) s = .next (s.setCh c { x with
          blockPos := 0
          blockSum := 0
          noiseCode := noise
          thr := if x.cfg.mode = .fixed then x.thr
            else if x.thr ≤ target then min target (x.thr + 3) else max target (x.thr - 3) }))))

/-- HIT_END and FORCED_END: the record is formed and enters the list, or is dropped if 512 entries are held; the channel
goes at once to LOCKOUT through d + HLT, or with HLT 0 to QUIET, or to TESTING if a check claims it and it has not been
in FAULT since, with a pending threshold applied (R20, R33, R35, R36, R38, R39, R42, R47, R49). Offers of one sample are
taken in ascending channel order: one that is not in its turn waits for it (R48; how it does so is log 34). In FREEZING
a hit awaits its cut, and its end with it (R55, logs 15 and 34). HIT_END, FORCED_END and LOCKOUT_END change nothing
before their deadline; LOCKOUT_END and SETTLING_COMPLETE bring the channel to QUIET, or to TESTING if a check claims it
and it has not been in FAULT since, with a pending threshold applied (R20, R25, R27, R28, R35, R36, R38). That they do
nothing before their deadline is log 1; that a deadline's sample must have been taken is log 11. -/
def Obligations.HitsLockoutsAndSettlingEnd : Prop :=
  (∀ (s : State) (c : Chan) (h : Hit) (n m : Nat) (seen : Bool), s.inReset = false → (s.ch c).state = .hit h →
      seen = (s.ch c).frameSeen → n = h.lastCount + (s.ch c).cfg.hdt → m = h.arrival + (s.ch c).cfg.maxDur →
      (s.ctl.run ≠ .freezing →
        (Reached s.tick seen n → n ≤ m → exec (.hitEnd c) s = .next (s.endedAt c h n false)) ∧
        (Reached s.tick seen m → m < n → exec (.forcedEnd c) s = .next (s.endedAt c h m true))) ∧
      (s.ctl.run = .freezing ∨ ¬Reached s.tick seen n ∨ m < n → exec (.hitEnd c) s = .next s) ∧
      (s.ctl.run = .freezing ∨ ¬Reached s.tick seen m ∨ n ≤ m → exec (.forcedEnd c) s = .next s)) ∧
  (∀ (s : State) (c : Chan) (x y : Channel), s.inReset = false → s.ch c = x →
      y = { x with
        cfg := match x.pendingThr with
          | some v => { x.cfg with thrCode := v }
          | none => x.cfg
        thr := match x.pendingThr with
          | some v => if x.cfg.mode = .fixed then v else max x.thr v
          | none => x.thr
        pendingThr := none
        state := if s.claimed c ∧ x.leftCheck = false then .testing else .quiet } →
      (∀ till, x.state = .lockout till →
        (Reached s.tick x.frameSeen till → exec (.lockoutEnd c) s = .next (s.setCh c y)) ∧
        (¬Reached s.tick x.frameSeen till → exec (.lockoutEnd c) s = .next s)) ∧
      (x.state = .settling →
        (x.settleDue = true → exec (.settlingComplete c) s = .next (s.setCh c { y with settleDue := false })) ∧
        (x.settleDue = false → exec (.settlingComplete c) s = .next s)))

/-- LANE_LOST of a GOOD lane whose missing run is 4: an OFF channel changes its lane status alone; an enabled one leaves
the check, whose every other value stands, has its hit cut and offered, and enters FAULT with its pending threshold
applied and its fault counted and told (R19, R25, R37, R39, R42, R47, R49, R138, R146). The offer of the cut may wait
for its turn, the channel does not (R48, log 34); in FREEZING a hit is cut first (R55). LANE_RECOVERED of a LOST lane
whose good run is 64: the lane is GOOD; a channel in FAULT begins to settle and tells it, with its fault count unchanged
(R20, R27). Outside ARMED, with the tick counter held, all of the check stands (R2, R136, log 42). That a short run does
nothing is log 1; that a removed channel's PATTERN outcome becomes LOST, decided or not, is log 16; a hit's own end at
the sample of the cut is log 15; that a loss and a step of the check at one sample go in the queue's order is log 41. -/
def Obligations.LaneIsLostAndRecovers : Prop :=
  (∀ (s : State) (c : Chan) (x : Channel), s.inReset = false → s.ch c = x → x.lane = .good →
      (x.missingRun < 4 → exec (.laneLost c) s = .next s) ∧
      (x.missingRun = 4 →
        (x.state = .off → exec (.laneLost c) s = .next (s.setCh c { x with lane := .lost, goodRun := 0 })) ∧
        (x.state ≠ .off → (∀ h, x.state ≠ .hit h) → exec (.laneLost c) s = .next (State.notify
          (State.setCh { s with chk := s.checkWithout c } c x.faulted)
          (.faultLost s.tick c (min 255 (x.faults + 1))))) ∧
        (∀ h, x.state = .hit h →
          (s.ctl.run ≠ .freezing → exec (.laneLost c) s = .next (s.lostInHit c h)) ∧
          (s.ctl.run = .freezing → exec (.laneLost c) s = .next s)))) ∧
  (∀ (s : State) (c : Chan) (x : Channel), s.inReset = false → s.ch c = x → x.lane = .lost →
      (x.goodRun < 64 → exec (.laneRecovered c) s = .next s) ∧
      (x.goodRun = 64 →
        (x.state ≠ .fault → exec (.laneRecovered c) s = .next (s.setCh c { x with lane := .good, goodRun := 0 })) ∧
        (x.state = .fault → exec (.laneRecovered c) s = .next (State.notify
          (s.setCh c { x with
            lane := .good
            goodRun := 0
            state := .settling
            blockPos := 0
            blockSum := 0
            blockBad := false
            settleDue := false
            faultChanged := true })
          (.faultRecovered s.tick c x.faults)))))

/-- CHANNEL SET, with any selection of the eleven items: FORMAT, BUSY, STATE, RANGE and BUSY by its tests in order;
otherwise every channel of the mask takes every item, clamped, in the order threshold code, mode, the rest, enable,
a disable abandons the noise block, and a channel enabled with its lane LOST enters FAULT and tells it (R21 to R25,
R40). That the FAULT notices come before the reply is log 19; that they go in ascending channel order is log 35. -/
def Obligations.ChannelSetByItsTests : Prop :=
  ∀ (s : State) (f : Frame) (rest : List Frame) (m1 m0 i1 i0 : Byte) (raw : List Byte) (mask : Chan → Bool)
    (item : Fin 11 → Option Nat) (width hi : Fin 11 → Nat),
    s.Takes f rest → f.kind = 0x04#8 → (∀ c : Chan, mask c = (m1.toNat * 256 + m0.toNat).testBit c.val) →
    width = ![1, 1, 1, 1, 1, 1, 2, 2, 2, 3, 1] → hi = ![1, 2, 1, 90, 40, 40, 65535, 65535, 65535, 1048575, 4] →
    (∀ n : Fin 11, (item n).isSome = (i1.toNat * 256 + i0.toNat).testBit n.val) →
    (f.payload.length < 4 → Refuses .channelSet s f rest .format) ∧
    (f.payload = m1 :: m0 :: i1 :: i0 :: raw →
      (raw.length ≠ ((List.finRange 11).map fun n => if (item n).isSome then width n else 0).sum →
        Refuses .channelSet s f rest .format) ∧
      ((∀ n v, item n = some v → v < 256 ^ width n) →
        raw = ((List.finRange 11).flatMap fun n => match item n with
          | some v => be (width n) v
          | none => []) → ∀ beyond bad : Prop,
        (beyond ↔ ∃ n : Fin 11, (item n).isSome = true ∧ n ≠ 3 ∧ n ≠ 4 ∧ n ≠ 5) →
        (bad ↔ (∀ c, mask c = false) ∨ ∃ n v, n < 3 ∧ item n = some v ∧ hi n < v) →
        (s.ctl.run = .freezing → Refuses .channelSet s f rest .busy) ∧
        (s.ctl.run = .armed → beyond → Refuses .channelSet s f rest .state) ∧
        (s.ctl.run ≠ .freezing → ¬(s.ctl.run = .armed ∧ beyond) →
          (bad → Refuses .channelSet s f rest .range) ∧
          (¬bad → (∃ c, mask c = true ∧ s.claimed c = true) → Refuses .channelSet s f rest .busy) ∧
          (¬bad → (∀ c, mask c = true → s.claimed c = false) →
            ∀ (put : Fin 11 → Nat → Nat → Nat) (held : Channel → Bool) (thr : Channel → Nat)
              (base take : Channel → Channel) (t : State),
            (∀ n lo old, put n lo old = match item n with
              | some v => max lo (min (hi n) v)
              | none => old) →
            (∀ x, held x = match x.state with
              | .hit _ => true
              | .lockout _ => true
              | _ => false) →
            (∀ x, thr x = if held x then x.cfg.thrCode else put 3 0 x.cfg.thrCode) →
            (∀ x, base x = { x with
              pendingThr := if held x = true ∧ item 3 ≠ none then some (put 3 0 0) else x.pendingThr
              thr := if item 2 ≠ none ∧ item 2 ≠ some x.cfg.mode.code then thr x
                else if held x = true ∨ item 3 = none then x.thr
                else if x.cfg.mode = .fixed then thr x else max x.thr (thr x)
              cfg := { x.cfg with
                role := if item 1 = some 0 then .locate else if item 1 = some 1 then .guard
                  else if item 1 = some 2 then .monitor else x.cfg.role
                mode := if item 2 = some 0 then .fixed else if item 2 = some 1 then .floating else x.cfg.mode
                thrCode := thr x
                margin := put 4 0 x.cfg.margin
                refOffset := put 5 0 x.cfg.refOffset
                pdt := put 6 1 x.cfg.pdt
                hdt := put 7 1 x.cfg.hdt
                hlt := put 8 0 x.cfg.hlt
                maxDur := put 9 1 x.cfg.maxDur
                pulserLevel := put 10 1 x.cfg.pulserLevel } }) →
            (∀ x, take x = if item 0 = some 0 then
                { base x with
                  cfg := { (base x).cfg with enable := false }
                  state := .off, blockPos := 0, blockSum := 0, blockBad := false, settleDue := false }
              else if item 0 = some 1 ∧ x.state = .off then
                if x.lane = .good then { base x with
                  cfg := { (base x).cfg with enable := true }
                  state := .settling, blockPos := 0, blockSum := 0, blockBad := false, settleDue := false }
                else { Channel.withPending { base x with cfg := { (base x).cfg with enable := true } } with
                  state := .fault, faults := min 255 (x.faults + 1), faultChanged := true, leftCheck := true }
              else base x) →
            t = (allChans.filter fun c => decide (mask c = true ∧ item 0 = some 1 ∧ (s.ch c).state = .off ∧
                (s.ch c).lane = .lost)).foldl
              (fun u c => u.notify (.faultLost s.tick c (min 255 ((s.ch c).faults + 1))))
              (State.mapCh (s.withReady rest) fun c x => if mask c = true then take x else x) →
            Answers .channelSet s f t
              (if ∃ n v, item n = some v ∧ (hi n < v ∨ (v = 0 ∧ (n = 6 ∨ n = 7 ∨ n = 9 ∨ n = 10)))
                then .clamped else .done) []))))

/-- CHANNEL GET is served in every run state: one byte names the channel, above 15 is RANGE, and the reply gives its
configuration, state, thresholds, noise code, lane status, verdict, counters and the arrival of a hit in progress
(R26, 11.4). -/
def Obligations.ChannelGetReports : Prop :=
  ∀ (s : State) (f : Frame) (rest : List Frame), s.Takes f rest → f.kind = 0x05#8 →
    (f.payload.length ≠ 1 → Refuses .channelGet s f rest .format) ∧
    ∀ b : Byte, f.payload = [b] →
      (15 < b.toNat → Refuses .channelGet s f rest .range) ∧
      ∀ (c : Chan) (x : Channel), b.toNat = c.val → x = s.ch c → Answers .channelGet s f (s.withReady rest) .done
        (be 1 c.val ++ be 1 (if x.cfg.enable then 1 else 0) ++ be 1 x.cfg.role.code ++ be 1 x.cfg.mode.code ++
          be 1 x.cfg.thrCode ++ be 1 x.cfg.margin ++ be 1 x.cfg.refOffset ++ be 2 x.cfg.pdt ++ be 2 x.cfg.hdt ++
          be 2 x.cfg.hlt ++ be 3 x.cfg.maxDur ++ be 1 x.cfg.pulserLevel ++ be 1 x.state.code ++ be 1 x.thr ++
          be 1 (x.pendingThr.getD 255) ++ be 1 x.noiseCode ++ be 1 x.lane.code ++ be 1 (s.chk.verdicts[c]).code ++
          be 4 x.ended ++ be 4 x.entered ++ be 4 x.dropped ++ be 4 x.lone ++ be 1 x.faults ++
          be 6 (match x.state with
            | .hit h => h.arrival
            | _ => 0))

/-! ### Arithmetic (00_scope.md) -/

/-- The integer square root is exact, the magnitude of a code up to 90 is the smallest integer not less than 10 to the
power of a twentieth of the code, and the amplitude code of a magnitude is the largest code up to 90 whose magnitude it
reaches, and 0 for the magnitude 0 ("Arithmetic", "The magnitude table"). -/
def Obligations.RootAndCodeAreExact : Prop :=
  (∀ n, isqrt n * isqrt n ≤ n ∧ n < (isqrt n + 1) * (isqrt n + 1)) ∧
  (∀ n, n ≤ 90 → 10 ^ n ≤ bigM n ^ 20 ∧ (bigM n - 1) ^ 20 < 10 ^ n) ∧
  ampCode 0 = 0 ∧ ∀ x, ampCode x ≤ 90 ∧ (1 ≤ x → bigM (ampCode x) ≤ x) ∧ (∀ n, n ≤ 90 → bigM n ≤ x → n ≤ ampCode x)

/-! ### The hit list (03) -/

/-- An insertion keeps the list in order of arrival, then channel, and adds the one entry (R44, R47). The drop range:
extended by a dropped arrival, opened and closed by a check's span, met by a window that reaches it, and emptied when
the position has passed its end by more than W (R56 to R60). -/
def Obligations.HitListKeepsOrderAndDropRange : Prop :=
  (∀ (e : Entry) (l : List Entry),
      l.Pairwise (fun a b => a.record.arrival < b.record.arrival ∨
        (a.record.arrival = b.record.arrival ∧ a.record.channel ≤ b.record.channel)) →
      (insertEntry e l).Pairwise (fun a b => a.record.arrival < b.record.arrival ∨
        (a.record.arrival = b.record.arrival ∧ a.record.channel ≤ b.record.channel)) ∧
      (insertEntry e l).Perm (e :: l)) ∧
  (∀ (a t f e w lo : Nat) (hi : Option Nat),
      extendDrop a none = ⟨a, some a⟩ ∧ extendDrop a (some ⟨lo, hi⟩) = ⟨min lo a, hi.map (max a)⟩ ∧
      openSpan t none = ⟨t, none⟩ ∧ openSpan t (some ⟨lo, hi⟩) = ⟨min lo t, none⟩ ∧
      closeSpan t none = none ∧ closeSpan t (some ⟨lo, none⟩) = some ⟨lo, some t⟩ ∧
      (∀ h, closeSpan t (some ⟨lo, some h⟩) = some ⟨lo, some h⟩) ∧
      meetsDrop f e none = false ∧ (meetsDrop f e (some ⟨lo, none⟩) = true ↔ lo ≤ e) ∧
      (∀ h, meetsDrop f e (some ⟨lo, some h⟩) = true ↔ lo ≤ e ∧ f ≤ h) ∧
      clearDrop t w none = none ∧ clearDrop t w (some ⟨lo, none⟩) = some ⟨lo, none⟩ ∧
      (∀ h, (h + w < t → clearDrop t w (some ⟨lo, some h⟩) = none) ∧
        (t ≤ h + w → clearDrop t w (some ⟨lo, some h⟩) = some ⟨lo, some h⟩)))

/-! ### The associator (04) -/

/-- HAND_OVER with no event open: the first settled waiting entry is released with LOCKOUT before the lockout's end,
with MONITOR if its channel is barred, and otherwise opens an event; the position takes its arrival and the drop range
is compared with it (R53, R54, R60, R66, R67, R71, R73, R144). -/
def Obligations.HandOverWithNoEventOpen : Prop :=
  ∀ (s : State) (pre post : List Entry) (r : HitRec) (barred : Prop),
    s.inReset = false → s.assoc.openEvent = none →
    s.hitList = pre ++ ⟨r, false⟩ :: post → (∀ x ∈ pre, x.taken = true) →
    (∀ h, s.horizon = some h → r.arrival < h) →
    (barred ↔ (s.ch r.channel).cfg.role = .monitor ∨
      (s.chk.policy = .excludePoor ∧ s.chk.verdicts[r.channel] = .poor)) →
    (∀ why, (why = LoneReason.lockout ∧ r.arrival < s.assoc.lockoutUntil) ∨
        (why = LoneReason.monitor ∧ s.assoc.lockoutUntil ≤ r.arrival ∧ barred) →
      exec .handOver s = .next (State.report
        (State.setCh
          { s with
            hitList := pre ++ post
            assoc := { s.assoc with position := r.arrival }
            dropRange := clearDrop r.arrival s.assoc.w s.dropRange }
          r.channel { s.ch r.channel with lone := min 4294967295 ((s.ch r.channel).lone + 1) })
        (.hit r why))) ∧
    (s.assoc.lockoutUntil ≤ r.arrival → ¬barred → exec .handOver s = .next
      { s with
        hitList := pre ++ ⟨r, true⟩ :: post
        assoc := { s.assoc with
          position := r.arrival
          openEvent := some ⟨r.arrival, r.arrival + s.assoc.w, decide ((s.ch r.channel).cfg.role = .guard)⟩ }
        dropRange := clearDrop r.arrival s.assoc.w s.dropRange })

/-- HAND_OVER within the window of the open event: REPEATED for a channel that has a member, FULL with eight members,
MONITOR for a barred channel, in that order; otherwise the entry joins (R53, R54, R65, R67, R68, R71, R73). -/
def Obligations.HandOverWithinTheWindow : Prop :=
  ∀ (s : State) (pre post : List Entry) (r : HitRec) (o : OpenEvent) (barred repeated full : Prop),
    s.inReset = false → s.assoc.openEvent = some o → r.arrival ≤ o.windowEnd →
    s.hitList = pre ++ ⟨r, false⟩ :: post → (∀ x ∈ pre, x.taken = true) →
    (∀ h, s.horizon = some h → r.arrival < h) →
    (barred ↔ (s.ch r.channel).cfg.role = .monitor ∨
      (s.chk.policy = .excludePoor ∧ s.chk.verdicts[r.channel] = .poor)) →
    (repeated ↔ ∃ x ∈ s.hitList, x.taken = true ∧ x.record.channel = r.channel) →
    (full ↔ 8 ≤ (s.hitList.filter (·.taken)).length) →
    (∀ why, (why = LoneReason.repeated ∧ repeated) ∨ (why = LoneReason.full ∧ ¬repeated ∧ full) ∨
        (why = LoneReason.monitor ∧ ¬repeated ∧ ¬full ∧ barred) →
      exec .handOver s = .next (State.report
        (State.setCh
          { s with
            hitList := pre ++ post
            assoc := { s.assoc with position := r.arrival }
            dropRange := clearDrop r.arrival s.assoc.w s.dropRange }
          r.channel { s.ch r.channel with lone := min 4294967295 ((s.ch r.channel).lone + 1) })
        (.hit r why))) ∧
    (¬repeated → ¬full → ¬barred → exec .handOver s = .next
      { s with
        hitList := pre ++ ⟨r, true⟩ :: post
        assoc := { s.assoc with position := r.arrival }
        dropRange := clearDrop r.arrival s.assoc.w s.dropRange })

/-- HAND_OVER beyond the window closes the open event first and then decides the entry with no event open (R69); with no
settled waiting entry it does nothing (R52, R53). CLOSE_BY_HORIZON closes the open event once no settled entry waits and
the horizon, if bounded, has passed the window's end, which the position takes (R52, R60, R70, R71). That it otherwise
does nothing is the model's choice (log 1). The first waiting entry is the first that has not been taken, if it is
settled (R46, R52, R53). The horizon is the least of the tick and the arrivals of the hits in progress in ARMED, and
unbounded in IDLE, FROZEN, and FREEZING once no hit is left to cut (R50, R55). That an offer which waits holds it as its
hit did, and that in FREEZING the hits still to cut and the offers that wait hold it as in ARMED, is the model's choice
(log 34). -/
def Obligations.OpenEventCloses : Prop :=
  (∀ s : State, s.inReset = false →
      (∀ (e : Entry) (o : OpenEvent), s.firstWaiting = some e → s.assoc.openEvent = some o →
        o.windowEnd < e.record.arrival →
        exec .handOver s = exec .handOver (s.close o) ∧ (s.close o).assoc.openEvent = none ∧
          (s.close o).firstWaiting = some e) ∧
      ((∀ x ∈ s.hitList, x.taken = true) → exec .handOver s = .next s) ∧
      (∀ pre post r h, s.hitList = pre ++ ⟨r, false⟩ :: post → (∀ x ∈ pre, x.taken = true) →
        s.horizon = some h → h ≤ r.arrival → exec .handOver s = .next s)) ∧
  (∀ s : State, s.inReset = false →
      (∀ o, s.assoc.openEvent = some o → s.firstWaiting = none → (∀ h, s.horizon = some h → o.windowEnd < h) →
        ∃ t, t = s.close o ∧ exec .closeByHorizon s = .next
          { t with
            assoc := { t.assoc with position := o.windowEnd }
            dropRange := clearDrop o.windowEnd t.assoc.w t.dropRange }) ∧
      (∀ o h, s.assoc.openEvent = some o → s.horizon = some h → h ≤ o.windowEnd →
        exec .closeByHorizon s = .next s) ∧
      (∀ e, s.firstWaiting = some e → exec .closeByHorizon s = .next s) ∧
      (s.assoc.openEvent = none → exec .closeByHorizon s = .next s)) ∧
  (∀ (s : State) (e : Entry), s.firstWaiting = some e ↔ e.taken = false ∧ (∃ pre post, s.hitList = pre ++ e :: post ∧
      ∀ x ∈ pre, x.taken = true) ∧ ∀ h, s.horizon = some h → e.record.arrival < h) ∧
  ∀ (s : State) (held : Nat → Prop),
    (∀ a, held a ↔ a = s.tick ∨ (∃ c h, (s.ch c).state = .hit h ∧ a = h.arrival) ∨ ∃ r ∈ s.offers, a = r.arrival) →
    (s.ctl.run = .armed ∨
        (s.ctl.run = .freezing ∧ ((∃ c h, (s.ch c).state = .hit h) ∨ s.offers ≠ [])) →
      ∃ h, s.horizon = some h ∧ held h ∧ ∀ a, held a → h ≤ a) ∧
    (s.ctl.run = .idle ∨ s.ctl.run = .frozen ∨
        (s.ctl.run = .freezing ∧ (∀ c h, (s.ch c).state ≠ .hit h) ∧ s.offers = []) →
      s.horizon = none)

/-- The close of an event: one member is a lone hit, SINGLE or GUARD; two or more are a numbered event, reported at
once if GUARDED, and else counted in the zone table and queued for location or reported UNLOCATED (R54, R72 to R80,
R119, R160). -/
def Obligations.CloseNumbersAndRoutes : Prop :=
  ∀ (s : State) (o : OpenEvent),
    (∀ c, s.loc.placed c = true ↔ ∃ g p, s.loc.geom = some g ∧ g.pos[c] = some p) ∧
    (∀ r, (s.hitList.filter (·.taken)).map (·.record) = [r] → s.close o = State.report
      (State.setCh
        { s with
          hitList := s.hitList.filter fun e => !e.taken
          assoc := { s.assoc with openEvent := none } }
        r.channel { s.ch r.channel with lone := min 4294967295 ((s.ch r.channel).lone + 1) })
      (.hit r (if o.guarded then .guard else .single))) ∧
    (∀ (first second : HitRec) (more ms : List HitRec) (e : EventRec) (u : State),
      (s.hitList.filter (·.taken)).map (·.record) = ms → ms = first :: second :: more →
      e = ⟨s.assoc.eventNo, .undecided, first.channel, o.first, first.stamp.pressure, first.stamp.phase,
        first.stamp.holdIndex, meetsDrop o.first o.windowEnd s.dropRange, ms.any (·.clipped), first.stamp.belowMax,
        first.stamp.stale, ms.map fun r => ⟨r, r.arrival - o.first⟩, none⟩ →
      u = { s with
        hitList := s.hitList.filter fun e => !e.taken
        assoc := { s.assoc with
          openEvent := none
          lockoutUntil := o.windowEnd + s.assoc.el
          lastEvent := s.assoc.eventNo
          eventNo := min 4294967295 (s.assoc.eventNo + 1) }
        ctl := { s.ctl with numbered := min 4294967295 (s.ctl.numbered + 1) } } →
      (o.guarded = true → s.close o = u.report (.event { e with state := .guarded })) ∧
      (o.guarded = false → ∀ (z : ZoneCount) (v : State), z = s.map.zones[first.channel] →
        v = { u with map := { s.map with
          zones := s.map.zones.set first.channel.val (ZoneCount.mk (min 65535 (z.events + 1))
            (if first.stamp.phase = .hold then min 65535 (z.hold + 1) else z.hold)
            (if first.stamp.belowMax = true then min 65535 (z.reload + 1) else z.reload)) } } →
        (s.loc.placed first.channel = false →
          s.close o = v.report (.event { e with state := .unlocated .noGeometry })) ∧
        (s.loc.placed first.channel = true →
          ((ms.filter fun r => s.loc.placed r.channel).length < 3 →
            s.close o = v.report (.event { e with state := .unlocated .tooFew })) ∧
          (3 ≤ (ms.filter fun r => s.loc.placed r.channel).length →
            (16 ≤ s.loc.queue.length → s.close o = v.report (.event { e with state := .unlocated .queueFull })) ∧
            (s.loc.queue.length < 16 →
              s.close o = { v with loc := { s.loc with queue := s.loc.queue ++ [e] } })))))

/-- ASSOCIATION SET and RUPTURE SET in IDLE or FROZEN: the three settings are taken, clamped where the spec bounds
them; RC of 1 becomes 2, and 0 stays (R64, R159). -/
def Obligations.AssociationAndRuptureSetTaken : Prop :=
  ∀ (s : State) (f : Frame) (rest : List Frame) (w1 w0 x1 x0 y1 y0 rc d1 d0 : Byte) (w : Nat),
    s.Takes f rest → s.Configurable → w = w1.toNat * 256 + w0.toNat →
    (f.kind = 0x0B#8 → f.payload = [w1, w0, x1, x0, y1, y0] → Answers .associationSet s f
      { s.withReady rest with assoc := { s.assoc with
        w := max 1 w, el := x1.toNat * 256 + x0.toNat, rl := y1.toNat * 256 + y0.toNat } }
      (if w = 0 then .clamped else .done) []) ∧
    (f.kind = 0x0D#8 → f.payload = [w1, w0, rc, d1, d0] → Answers .ruptureSet s f
      { s.withReady rest with ctl := { s.ctl with
        rw := max 1 w
        rc := if rc.toNat = 0 then 0 else max 2 (min 16 rc.toNat)
        d := d1.toNat * 256 + d0.toNat } }
      (if w = 0 ∨ rc.toNat = 1 ∨ 16 < rc.toNat then .clamped else .done) [])

/-! ### The locator (05) -/

/-- LOCATION_START: a FREE locator takes the head of its queue; the location lasts (n × k + 4) div 5 sample periods
for n cells and k placed members; otherwise nothing starts (R104, R105, R106). LOCATION_END when the duration has
elapsed: the event is LOCATED, EXCLUDED or NO_FIT by the mean residual and the zone, goes to the report unit, and to
the map if LOCATED; before that nothing happens (R101, R107, R82, R160). That it otherwise does nothing is the model's
choice (log 1). That the inputs of a location are read at its start is log 28; that the report unit is given the event
before the map queues its notices is log 39. -/
def Obligations.LocationStartsAndEnds : Prop :=
  (∀ s : State, s.inReset = false →
      (∀ (e : EventRec) (q : List EventRec) (g : Geometry) (n k : Nat),
        s.loc.busy = none → s.loc.queue = e :: q → s.loc.geom = some g →
        n = (g.win[e.firstChannel]).colSpan * (g.win[e.firstChannel]).rowSpan →
        k = (e.members.filter fun m => s.loc.placed m.record.channel).length →
        exec .locationStart s = .next
          { s with loc := { s.loc with queue := q, busy := some ⟨e, (n * k + 4) / 5, g, s.loc.v, s.assoc.rl⟩ } }) ∧
      (s.loc.busy ≠ none ∨ s.loc.queue = [] → exec .locationStart s = .next s)) ∧
  (∀ (s : State) (b : Locating) (p : LocPart), s.inReset = false → s.loc.busy = some b → p = b.part →
      (b.left ≠ 0 → exec .locationEnd s = .next s) ∧
      (b.left = 0 →
        (b.rl < p.mean → exec .locationEnd s = .next (State.report
          { s with loc := { s.loc with busy := none } }
          (.event { b.event with state := .noFit, loc := some p }))) ∧
        (p.mean ≤ b.rl → ∀ z, b.geom.exclusion p.col p.row = some z → exec .locationEnd s = .next (State.report
          { s with loc := { s.loc with busy := none } }
          (.event { b.event with state := .excluded z, loc := some p }))) ∧
        (p.mean ≤ b.rl → b.geom.exclusion p.col p.row = none → exec .locationEnd s = .next (State.accumulate
          (State.report
            { s with
              loc := { s.loc with busy := none }
              ctl := { s.ctl with located := min 4294967295 (s.ctl.located + 1) } }
            (.event { b.event with state := .located, loc := some p }))
          b.geom.nc b.geom.nr { b.event with state := .located, loc := some p } p))))

/-- The location part: the cell is one of the window's with the least residual, the first visited among equals; index,
mean residual, quality, zone and EDGE are formed from it (R93, R98 to R102). What it is worked from: cell centres,
shell distances, travel times, the visiting order of a window, the placed members, the clamped residual, and the
exclusion test (R89, R91, R93, R95 to R98). -/
def Obligations.LocationIsTheLeastResidual : Prop :=
  (∀ (b : Locating) (p : LocPart) (ms : List (Member × Pos)) (w : Rect), p = b.part →
    ms = b.geom.placedMembers b.event.members → w = b.geom.win[b.event.firstChannel] →
    w.Fits b.geom.nc b.geom.nr →
    (∃ pre post, b.geom.cellsOf w = pre ++ (p.col, p.row) :: post ∧
      (∀ c ∈ pre, b.geom.residual b.v ms (p.col, p.row) < b.geom.residual b.v ms c) ∧
      ∀ c ∈ post, b.geom.residual b.v ms (p.col, p.row) ≤ b.geom.residual b.v ms c) ∧
    p.col < b.geom.nc ∧ p.row < b.geom.nr ∧ p.index = p.row * b.geom.nc + p.col ∧
    p.residual = b.geom.residual b.v ms (p.col, p.row) ∧ p.mean = p.residual / (ms.length - 1) ∧
    p.quality ≤ 255 ∧ p.quality * p.quality ≤ p.mean ∧
    (p.quality < 255 → p.mean < (p.quality + 1) * (p.quality + 1)) ∧
    p.zone = (if p.mean ≤ b.rl then b.geom.exclusion p.col p.row else none) ∧
    (p.edge = true ↔ p.row = w.row ∨ p.row + 1 = w.row + w.rowSpan ∨
      (w.colSpan ≠ b.geom.nc ∧ (p.col = w.col ∨ p.col = (w.col + w.colSpan - 1) % b.geom.nc)))) ∧
  (∀ (g : Geometry) (w : Rect), w.Fits g.nc g.nr →
    (g.cellsOf w).length = w.rowSpan * w.colSpan ∧
    ∀ n, n < w.rowSpan * w.colSpan →
      (g.cellsOf w)[n]? = some ((w.col + n % w.colSpan) % g.nc, w.row + n / w.colSpan)) ∧
  ∀ g : Geometry,
    (∀ j i, g.centre j i = ⟨(2 * j + 1) * g.circ / (2 * g.nc), (2 * i + 1) * g.len / (2 * g.nr)⟩) ∧
    (∀ (a b : Pos) (ds dz sum : Nat), a.s < g.circ → b.s < g.circ →
      ds = min (max a.s b.s - min a.s b.s) (g.circ - (max a.s b.s - min a.s b.s)) →
      dz = max a.z b.z - min a.z b.z → sum = ds * ds + dz * dz →
      g.dist a b * g.dist a b ≤ sum ∧ sum < (g.dist a b + 1) * (g.dist a b + 1)) ∧
    (∀ v d : Nat, travel v d = (d * 5000 + v / 2) / v) ∧
    (∀ ms : List Member,
      (g.placedMembers ms).map Prod.fst = ms.filter (fun m => (g.pos[m.record.channel]).isSome) ∧
      ∀ q ∈ g.placedMembers ms, g.pos[q.1.record.channel] = some q.2) ∧
    (∀ (v col row : Nat) (first : Member × Pos) (others : List (Member × Pos)) (T : Pos → Int),
      (∀ p, T p = travel v (g.dist (g.centre col row) p)) →
      g.residual v (first :: others) (col, row) = min 4294967295 (others.map fun q =>
        min 4294967295 ((((q.1.delta : Int) - first.1.delta - (T q.2 - T first.2)) ^ 2).toNat)).sum) ∧
    (∀ (col row : Nat) (n : Fin 8) (inside : Fin 8 → Prop),
      (∀ k, inside k ↔ (g.zones[k]).on = true ∧ ∃ j i, j < (g.zones[k]).rect.colSpan ∧ i < (g.zones[k]).rect.rowSpan ∧
        col = ((g.zones[k]).rect.col + j) % g.nc ∧ row = (g.zones[k]).rect.row + i) →
      (g.exclusion col row = some n ↔ inside n ∧ ∀ k, k < n → ¬inside k) ∧
      (g.exclusion col row = none ↔ ∀ k, ¬inside k))

/-- GEOMETRY SET in IDLE or FROZEN: a dimension outside its range is refused with RANGE; otherwise the geometry is
loaded with nothing placed, every window the whole grid, every zone disabled, and the map and the zone table cleared
with the alarm lines and the hold request (R87, R125). -/
def Obligations.GeometrySetLoads : Prop :=
  ∀ (s : State) (f : Frame) (rest : List Frame) (c1 c0 l1 l0 nc nr v1 v0 : Byte) (circ len v : Nat),
    s.Takes f rest → s.Configurable → f.kind = 0x07#8 → f.payload = [c1, c0, l1, l0, nc, nr, v1, v0] →
    circ = c1.toNat * 256 + c0.toNat → len = l1.toNat * 256 + l0.toNat → v = v1.toNat * 256 + v0.toNat →
    (circ < 100 ∨ len < 100 ∨ nc.toNat < 4 ∨ 64 < nc.toNat ∨ nr.toNat < 1 ∨ 32 < nr.toNat →
      Refuses .geometrySet s f rest .range) ∧
    (100 ≤ circ → 100 ≤ len → 4 ≤ nc.toNat → nc.toNat ≤ 64 → 1 ≤ nr.toNat → nr.toNat ≤ 32 →
      Answers .geometrySet s f
        { s.withReady rest with
          loc := { s.loc with
            geom := some ⟨circ, len, nc.toNat, nr.toNat, Vector.replicate 16 none,
              Vector.replicate 16 ⟨0, nc.toNat, 0, nr.toNat⟩,
              Vector.replicate 8 ⟨false, ⟨0, nc.toNat, 0, nr.toNat⟩⟩⟩
            v := max 500 (min 9999 v) }
          map := { s.map with
            cells := List.replicate (nc.toNat * nr.toNat) ⟨0, 0, 0, 0, 0, 0, .clear⟩
            zones := Vector.replicate 16 ⟨0, 0, 0⟩
            ack := Vector.replicate 4 false
            latch := false } }
        (if v < 500 ∨ 9999 < v then .clamped else .done) [])

/-- SENSOR PLACE in IDLE or FROZEN: a channel above 15, an unlisted action, no geometry, or a position to be placed
off the shell is refused with RANGE; otherwise the channel is placed or unplaced (R90). WINDOW SET and ZONE SET in
IDLE or FROZEN: a number, an enable or a base outside its range, or no geometry, is refused with RANGE; otherwise the
rectangle is stored with its spans clamped into the grid (R92, R94). That a SENSOR PLACE row takes an action that is
neither is log 5. -/
def Obligations.SensorWindowAndZoneSet : Prop :=
  (∀ (s : State) (f : Frame) (rest : List Frame) (ch action s1 s0 z1 z0 : Byte) (x z : Nat),
      s.Takes f rest → s.Configurable → f.kind = 0x08#8 → f.payload = [ch, action, s1, s0, z1, z0] →
      x = s1.toNat * 256 + s0.toNat → z = z1.toNat * 256 + z0.toNat →
      (action = 1#8 →
        (15 < ch.toNat ∨ s.loc.geom = none → Refuses .sensorPlace s f rest .range) ∧
        ∀ (c : Chan) (g : Geometry), ch.toNat = c.val → s.loc.geom = some g →
          (g.circ ≤ x ∨ g.len < z → Refuses .sensorPlace s f rest .range) ∧
          (x < g.circ → z ≤ g.len → Answers .sensorPlace s f
            { s.withReady rest with loc := { s.loc with geom := some { g with pos := g.pos.set c.val (some ⟨x, z⟩) } } }
            .done [])) ∧
      (action = 0#8 →
        (15 < ch.toNat ∨ s.loc.geom = none → Refuses .sensorUnplace s f rest .range) ∧
        ∀ (c : Chan) (g : Geometry), ch.toNat = c.val → s.loc.geom = some g → Answers .sensorUnplace s f
          { s.withReady rest with loc := { s.loc with geom := some { g with pos := g.pos.set c.val none } } }
          .done []) ∧
      (action ≠ 0#8 → action ≠ 1#8 → Refuses .sensorPlace s f rest .range)) ∧
  (∀ (s : State) (f : Frame) (rest : List Frame) (n en col cs row rs : Byte),
      s.Takes f rest → s.Configurable →
      (f.kind = 0x09#8 → f.payload = [n, col, cs, row, rs] →
        (15 < n.toNat ∨ s.loc.geom = none → Refuses .windowSet s f rest .range) ∧
        ∀ (c : Chan) (g : Geometry), n.toNat = c.val → s.loc.geom = some g →
          (g.nc ≤ col.toNat ∨ g.nr ≤ row.toNat → Refuses .windowSet s f rest .range) ∧
          (col.toNat < g.nc → row.toNat < g.nr → Answers .windowSet s f
            { s.withReady rest with loc := { s.loc with geom := some { g with
              win := g.win.set c.val (Rect.mk col.toNat (max 1 (min g.nc cs.toNat)) row.toNat
                (max 1 (min (g.nr - row.toNat) rs.toNat))) } } }
            (if cs.toNat = 0 ∨ g.nc < cs.toNat ∨ rs.toNat = 0 ∨ g.nr - row.toNat < rs.toNat
              then .clamped else .done) [])) ∧
      (f.kind = 0x0A#8 → f.payload = [n, en, col, cs, row, rs] →
        (7 < n.toNat ∨ 1 < en.toNat ∨ s.loc.geom = none → Refuses .zoneSet s f rest .range) ∧
        ∀ (z : Fin 8) (g : Geometry) (on : Bool), n.toNat = z.val → s.loc.geom = some g → en.toNat = on.toNat →
          (g.nc ≤ col.toNat ∨ g.nr ≤ row.toNat → Refuses .zoneSet s f rest .range) ∧
          (col.toNat < g.nc → row.toNat < g.nr → Answers .zoneSet s f
            { s.withReady rest with loc := { s.loc with geom := some { g with
              zones := g.zones.set z.val ⟨on, Rect.mk col.toNat (max 1 (min g.nc cs.toNat)) row.toNat
                (max 1 (min (g.nr - row.toNat) rs.toNat))⟩ } } }
            (if cs.toNat = 0 ∨ g.nc < cs.toNat ∨ rs.toNat = 0 ∨ g.nr - row.toNat < rs.toNat
              then .clamped else .done) [])))

/-! ### The activity map (06) -/

/-- The neighbourhood of a cell: the cells of the rows above, at and below it that exist, and of the columns to its
left, at and right of it round the shell, each once (R114). A LOCATED event reaches the map: its cell's counts,
energy, amplitude and last arrival are accumulated; a state higher than the cell's is taken, with the CLUSTER notice
and, for ACTIVE, the line's acknowledgement cleared and the latch set where enabled (R113, R115, R116, R121, R123). -/
def Obligations.MapAccumulatesOverNeighbourhood : Prop :=
  (∀ nc nr col row : Nat, 4 ≤ nc → col < nc → row < nr →
      (neighbourhood nc nr col row).Nodup ∧
      ∀ n, n ∈ neighbourhood nc nr col row ↔ ∃ i j, i < nr ∧ j < nc ∧ n = i * nc + j ∧
        (i = row ∨ i = row + 1 ∨ i + 1 = row) ∧ (j = col ∨ j = (col + 1) % nc ∨ col = (j + 1) % nc)) ∧
  (∀ (s : State) (nc nr : Nat) (e : EventRec) (p : LocPart) (i se sh sr : Nat) (old x : Cell) (new : CellLevel)
      (cells : List Cell) (is : List Nat),
      i = p.row * nc + p.col → i < s.map.cells.length → old = s.map.cells.getD i Cell.cleared →
      x = ⟨min 65535 (old.events + 1), if e.phase = .hold then min 65535 (old.hold + 1) else old.hold,
        if e.belowMax = true then min 65535 (old.reload + 1) else old.reload,
        min 4294967295 (old.energy + (e.members.map (·.record.energy)).sum),
        (e.members.map (·.record.amplitude)).foldl max old.amp, e.first, old.level⟩ →
      cells = s.map.cells.set i x → is = neighbourhood nc nr p.col p.row →
      se = (is.map fun k => (cells.getD k Cell.cleared).events).sum →
      sh = (is.map fun k => (cells.getD k Cell.cleared).hold).sum →
      sr = (is.map fun k => (cells.getD k Cell.cleared).reload).sum →
      new = (if (s.map.ah ≠ 0 ∧ s.map.ah ≤ sh) ∨ (s.map.ar ≠ 0 ∧ s.map.ar ≤ sr) then .active
        else if s.map.we ≠ 0 ∧ s.map.we ≤ se then .watch else .clear) →
      (new.code ≤ old.level.code → s.accumulate nc nr e p = { s with map := { s.map with cells := cells } }) ∧
      (old.level.code < new.code → ∀ (line : Fin 4) (u : State), line.val = (match s.map.mode with
            | .block => p.col * 4 / nc
            | .paired => 2 * (p.col * 2 / nc) + p.col % 2
            | .quad => p.col % 4) % 4 →
        u = { s with map := { s.map with
          cells := s.map.cells.set i { x with level := new }
          ack := if new = .active then s.map.ack.set line.val false else s.map.ack
          latch := s.map.latch || (decide (new = .active) && s.map.holdOn) } } →
        s.accumulate nc nr e p = u.notify (.cluster e.number p.col p.row i old.level new se sh sr e.pressure e.phase
          s.press.pMax line u.lines u.map.latch)))

/-- The output pins. A line is asserted while its enable is on, its acknowledgement clear and an ACTIVE cell lies in its
set of columns, under BLOCK, PAIRED or QUAD; with no cells no line is; HOLDQ is the latch (R120, R121, R123). PRDY is
asserted unless a full reset is held or both slots are READY (R170). A pulser is driven at the tick of its pulse, at the
level taken when the pulse was ordered, and PULSE, where the check is not held (R2), drives the pulser it takes and no
other (R29; that the pin is a function of the pulse and the tick is log 24). -/
def Obligations.LinesFollowTheCells : Prop :=
  (∀ (s : State) (n : Fin 4),
    (∀ g : Geometry, s.loc.geom = some g →
      (s.lines[n] = true ↔ s.map.lineOn[n] = true ∧ s.map.ack[n] = false ∧
        ∃ i x, s.map.cells[i]? = some x ∧ x.level = .active ∧ n.val = match s.map.mode with
          | .block => i % g.nc * 4 / g.nc
          | .paired => 2 * (i % g.nc * 2 / g.nc) + i % g.nc % 2
          | .quad => i % g.nc % 4)) ∧
    (s.map.cells = [] → s.lines[n] = false) ∧ s.holdq = s.map.latch) ∧
  (∀ s : State, s.prdy = true ↔ s.inReset = false ∧ s.link.ready.length < 2) ∧
  (∀ (s : State) (n : Chan) (level : Nat), s.pulserDrive n = some level ↔
    ∃ ck p, s.chk.check = some ck ∧ ck.pulse = some p ∧ p.pulser = n ∧ p.t0 = s.tick ∧ p.level = level) ∧
  (∀ (s : State) (ck : Check) (skip later : List Chan) (p : Chan), s.inReset = false → s.chk.check = some ck →
    ¬s.ChecksHeld → ck.running = true → ck.kind ≠ .pattern → ck.pulsers = skip ++ p :: later →
    (∀ c ∈ skip, ck.removed[c] = true) → ck.removed[p] = false → ck.nextPulse ≤ s.tick →
    (∀ q, ck.pulse = some q → q.windowOpen = false) →
    ∃ t, exec .pulse s = .next t ∧ t.pulserDrive p = some (s.ch p).cfg.pulserLevel ∧
      ∀ n, n ≠ p → t.pulserDrive n = none)

/-- CLUSTER SET, ALARM CLEAR and MAP CLEAR: the six items taken in every run state, the latch cleared with the hold
enable, an unlisted mode or hold enable RANGE; all lines acknowledged and the latch cleared; the records and the zone
table cleared unless FREEZING (R117, R118, R122, R125). -/
def Obligations.ClusterSetAndClears : Prop :=
  ∀ (s : State) (f : Frame) (rest : List Frame), s.Takes f rest →
    (f.kind = 0x0C#8 →
      (f.payload.length ≠ 9 → Refuses .clusterSet s f rest .format) ∧
      ∀ w1 w0 h1 h0 r1 r0 mode lines hold : Byte, f.payload = [w1, w0, h1, h0, r1, r0, mode, lines, hold] →
        (2 < mode.toNat ∨ 1 < hold.toNat → Refuses .clusterSet s f rest .range) ∧
        ∀ (m : SectorMode) (on : Bool) (en : Vector Bool 4), hold.toNat = on.toNat →
          mode.toNat = (match m with | .block => 0 | .paired => 1 | .quad => 2) →
          (∀ n : Fin 4, en[n] = lines.toNat.testBit n.val) →
          Answers .clusterSet s f
            { s.withReady rest with map := { s.map with
                we := w1.toNat * 256 + w0.toNat
                ah := h1.toNat * 256 + h0.toNat
                ar := r1.toNat * 256 + r0.toNat
                mode := m
                lineOn := en
                holdOn := on
                latch := s.map.latch && on } } .done []) ∧
    (f.kind = 0x11#8 →
      (f.payload ≠ [] → Refuses .alarmClear s f rest .format) ∧
      (f.payload = [] → Answers .alarmClear s f
        { s.withReady rest with map := { s.map with ack := Vector.replicate 4 true, latch := false } } .done [])) ∧
    (f.kind = 0x12#8 →
      (f.payload ≠ [] → Refuses .mapClear s f rest .format) ∧
      (f.payload = [] → s.ctl.run = .freezing → Refuses .mapClear s f rest .busy) ∧
      (f.payload = [] → s.ctl.run ≠ .freezing → Answers .mapClear s f
        { s.withReady rest with map := { s.map with
            cells := List.replicate s.map.cells.length ⟨0, 0, 0, 0, 0, 0, .clear⟩
            zones := Vector.replicate 16 ⟨0, 0, 0⟩
            ack := Vector.replicate 4 false
            latch := false } } .done []))

/-- MAP READ: a count of 0 or more than 32 positions is RANGE; otherwise one entry for each position by rows, then
columns, without wrap, OUTSIDE off the grid, and nothing changes (R128, 11.4, 11.7). That an OUTSIDE entry's state
byte is FFh, where R128 says CLEAR, is log 33. -/
def Obligations.MapReadGivesEntries : Prop :=
  ∀ (s : State) (f : Frame) (rest : List Frame), s.Takes f rest → f.kind = 0x13#8 →
    (f.payload.length ≠ 4 → Refuses .mapRead s f rest .format) ∧
    ∀ col n row k : Byte, f.payload = [col, n, row, k] →
      (n.toNat = 0 ∨ k.toNat = 0 ∨ 32 < n.toNat * k.toNat → Refuses .mapRead s f rest .range) ∧
      (n.toNat ≠ 0 → k.toNat ≠ 0 → n.toNat * k.toNat ≤ 32 → Answers .mapRead s f (s.withReady rest) .done
        (be 1 (n.toNat * k.toNat) ++ (List.range k.toNat).flatMap fun i => (List.range n.toNat).flatMap fun j =>
          match s.loc.geom with
          | none => be 1 (col.toNat + j) ++ be 1 (row.toNat + i) ++ List.replicate 19 0#8 ++ [0xFF#8]
          | some g =>
            if col.toNat + j < g.nc ∧ row.toNat + i < g.nr then
              (fun (k : Nat) (x : Cell) =>
                be 1 (col.toNat + j) ++ be 1 (row.toNat + i) ++ be 2 k ++ be 2 x.events ++ be 2 x.hold ++
                  be 2 x.reload ++ be 4 x.energy ++ be 1 x.amp ++ be 6 x.last ++ be 1 x.level.code)
                ((row.toNat + i) * g.nc + (col.toNat + j))
                (s.map.cells.getD ((row.toNat + i) * g.nc + (col.toNat + j)) Cell.cleared)
            else be 1 (col.toNat + j) ++ be 1 (row.toNat + i) ++ List.replicate 19 0#8 ++ [0xFF#8]))

/-- ZONE READ: a payload is FORMAT; otherwise, in every run state, all 16 zone table entries in channel order, and
nothing changes (R129). -/
def Obligations.ZoneReadGivesTheTable : Prop :=
  ∀ (s : State) (f : Frame) (rest : List Frame), s.Takes f rest → f.kind = 0x14#8 →
    (f.payload ≠ [] → Refuses .zoneRead s f rest .format) ∧
    (f.payload = [] → Answers .zoneRead s f (s.withReady rest) .done
      (allChans.flatMap fun c => be 2 (s.map.zones[c]).events ++ be 2 (s.map.zones[c]).hold ++
        be 2 (s.map.zones[c]).reload))

/-! ### Sensor checks (07) -/

/-- CHECK START with a kind that is not listed, or a payload whose length does not fit the kind SHORT or LONG, is FORMAT
(R133). CHECK START of kind SHORT by its tests: BUSY, STATE outside HOLD while ARMED, RANGE for the pulser, the policy
or no usable listener; otherwise the check begins, its QUIET channels enter TESTING, the policy is in force, and in
ARMED the drop range takes an open span (R28, R58, R133, R134). CHECK START of kind LONG by its tests; the involved set
is every usable channel, the pulsers those not of role MONITOR in ascending order (R28, R58, R133, R134). Which row
takes an unlisted kind is log 5. -/
def Obligations.PulseChecksStart : Prop :=
  (∀ (s : State) (f : Frame) (rest : List Frame), s.Takes f rest → f.kind = 0x15#8 →
      (f.payload = [] → Refuses .checkStartShort s f rest .format) ∧
      ∀ (k : Byte) (raw : List Byte), f.payload = k :: raw →
        (k ≠ 1#8 → k ≠ 2#8 → k ≠ 3#8 → Refuses .checkStartShort s f rest .format) ∧
        (k = 1#8 → raw.length ≠ 8 → Refuses .checkStartShort s f rest .format) ∧
        (k = 2#8 → raw.length ≠ 6 → Refuses .checkStartLong s f rest .format)) ∧
  (∀ (s : State) (f : Frame) (rest : List Frame) (k p m1 m0 w1 w0 rd tol pol : Byte) (lw : Nat) (usable : Chan → Prop)
      (lis : Chan → Bool), s.Takes f rest → f.kind = 0x15#8 → f.payload = [k, p, m1, m0, w1, w0, rd, tol, pol] →
      lw = w1.toNat * 256 + w0.toNat → (∀ c, usable c ↔ (s.ch c).cfg.enable = true ∧ (s.ch c).lane = .good) →
      (∀ c, lis c = true ↔ (m1.toNat * 256 + m0.toNat).testBit c.val = true ∧ usable c ∧ c.val ≠ p.toNat) →
      (k = 1#8 →
        (s.ctl.run = .freezing ∨ s.chk.check ≠ none → Refuses .checkStartShort s f rest .busy) ∧
        (s.chk.check = none → s.ctl.run = .armed → s.press.phase ≠ .hold → Refuses .checkStartShort s f rest .state) ∧
        (s.ctl.run ≠ .freezing → s.chk.check = none → (s.ctl.run = .armed → s.press.phase = .hold) →
          (15 < p.toNat ∨ 1 < pol.toNat ∨ (∀ c : Chan, c.val = p.toNat → ¬usable c) ∨ (∀ c, lis c = false) →
            Refuses .checkStartShort s f rest .range) ∧
          (∀ (a : Chan) (policy : Policy) (inv : Vector Bool 16), a.val = p.toNat → pol.toNat = policy.code → usable a →
            (∃ c, lis c = true) → (∀ c : Chan, inv[c] = (lis c || decide (c = a))) →
            ∃ t, t = State.mapCh
                { s.withReady rest with
                  chk := { s.chk with
                    policy := policy
                    check := some ⟨.short, false, 0, inv, Vector.replicate 16 false, [a], max 1 lw, max 1 rd.toNat,
                      min 40 tol.toNat, false, false, 0, s.tick, s.ctl.run, 0, none, Vector.replicate 256 .notMeasured,
                      0, Vector.replicate 16 ⟨0, none, none⟩⟩ }
                  dropRange := if s.ctl.run = .armed then some (openSpan s.tick s.dropRange) else s.dropRange }
                (fun c x => if inv[c] = true then
                { x with state := if x.state = .quiet then .testing else x.state, leftCheck := false } else x) ∧
              Answers .checkStartShort s f t
                (if lw = 0 ∨ rd.toNat = 0 ∨ 40 < tol.toNat then .clamped else .done) [])))) ∧
  (∀ (s : State) (f : Frame) (rest : List Frame) (w1 w0 rd tol pol opt : Byte) (lw : Nat) (inv : Vector Bool 16)
      (pulsers : List Chan), s.Takes f rest → f.kind = 0x15#8 → f.payload = [2#8, w1, w0, rd, tol, pol, opt] →
      lw = w1.toNat * 256 + w0.toNat →
      (∀ c : Chan, inv[c] = decide ((s.ch c).cfg.enable = true ∧ (s.ch c).lane = .good)) →
      pulsers = allChans.filter (fun c => decide (inv[c] = true ∧ (s.ch c).cfg.role ≠ .monitor)) →
      (s.ctl.run = .freezing ∨ s.chk.check ≠ none → Refuses .checkStartLong s f rest .busy) ∧
      (s.chk.check = none → s.ctl.run = .armed → s.press.phase ≠ .hold → Refuses .checkStartLong s f rest .state) ∧
      (s.ctl.run ≠ .freezing → s.chk.check = none → (s.ctl.run = .armed → s.press.phase = .hold) →
        (1 < pol.toNat ∨ pulsers = [] ∨ (allChans.filter fun c => inv[c]).length < 2 →
          Refuses .checkStartLong s f rest .range) ∧
        (∀ policy : Policy, pol.toNat = policy.code → pulsers ≠ [] → 2 ≤ (allChans.filter fun c => inv[c]).length →
          ∃ t, t = State.mapCh
              { s.withReady rest with
                chk := { s.chk with
                  policy := policy
                  check := some ⟨.long, false, 0, inv, Vector.replicate 16 false, pulsers, max 1 lw, max 1 rd.toNat,
                    min 40 tol.toNat, opt.toNat.testBit 0, opt.toNat.testBit 1, 0, s.tick, s.ctl.run, 0, none,
                    Vector.replicate 256 .notMeasured, 0, Vector.replicate 16 ⟨0, none, none⟩⟩ }
                dropRange := if s.ctl.run = .armed then some (openSpan s.tick s.dropRange) else s.dropRange }
              (fun c x => if inv[c] = true then
                { x with state := if x.state = .quiet then .testing else x.state, leftCheck := false } else x) ∧
            Answers .checkStartLong s f t
              (if lw = 0 ∨ rd.toNat = 0 ∨ 40 < tol.toNat then .clamped else .done) [])))

/-- CHECK START of kind PATTERN by its tests, and PATTERN LOAD by its tests, FORMAT for every payload whose length does
not fit among them: a piece at index 0 replaces the slot, one at the slot's length is appended (R133, R134, R145). -/
def Obligations.PatternStartsAndLoads : Prop :=
  ∀ (s : State) (f : Frame) (rest : List Frame), s.Takes f rest →
    (∀ raw : List Byte, f.kind = 0x15#8 → f.payload = 3#8 :: raw → raw.length ≠ 4 →
      Refuses .checkStartPattern s f rest .format) ∧
    (f.kind = 0x17#8 → (f.payload.length < 4 → Refuses .patternLoad s f rest .format) ∧
      ∀ (sl a1 a0 k : Byte) (raw : List Byte), f.payload = sl :: a1 :: a0 :: k :: raw →
        raw.length ≠ 2 * k.toNat ∨ k.toNat = 0 ∨ 128 < k.toNat → Refuses .patternLoad s f rest .format) ∧
    (∀ (pol sl m1 m0 : Byte) (inv : Vector Bool 16), f.kind = 0x15#8 → f.payload = [3#8, pol, sl, m1, m0] →
      (∀ c : Chan, inv[c] = ((m1.toNat * 256 + m0.toNat).testBit c.val &&
        decide ((s.ch c).cfg.enable = true ∧ (s.ch c).lane = .good))) →
      (s.ctl.run = .freezing ∨ s.chk.check ≠ none → Refuses .checkStartPattern s f rest .busy) ∧
      (s.chk.check = none → s.ctl.run = .armed ∨ s.ctl.run = .frozen → Refuses .checkStartPattern s f rest .state) ∧
      (s.ctl.run = .idle → s.chk.check = none →
        (3 < sl.toNat ∨ 1 < pol.toNat ∨ (∀ n : Fin 4, n.val = sl.toNat → s.chk.patterns[n] = []) ∨
            (∀ c : Chan, inv[c] = false) → Refuses .checkStartPattern s f rest .range) ∧
        (∀ (n : Fin 4) (policy : Policy), n.val = sl.toNat → pol.toNat = policy.code → s.chk.patterns[n] ≠ [] →
          (∃ c : Chan, inv[c] = true) → ∃ t, t = State.mapCh
            { s.withReady rest with chk := { s.chk with
                policy := policy
                check := some ⟨.pattern, false, 0, inv, Vector.replicate 16 false, [], 0, 0, 0, false, false, n, s.tick,
                  .idle, 0, none, Vector.replicate 256 .notMeasured, 0, Vector.replicate 16 ⟨0, none, none⟩⟩ } }
            (fun c x => if inv[c] = true then
                { x with state := if x.state = .quiet then .testing else x.state, leftCheck := false } else x) ∧
          Answers .checkStartPattern s f t .done []))) ∧
    (∀ (sl a1 a0 k : Byte) (raw : List Byte) (start : Nat) (piece : List Sample), f.kind = 0x17#8 →
      f.payload = sl :: a1 :: a0 :: k :: raw → start = a1.toNat * 256 + a0.toNat →
      raw = piece.flatMap (fun v => [BitVec.ofNat 8 (v.toNat / 256), BitVec.ofNat 8 v.toNat]) →
      (k.toNat = piece.length → piece ≠ [] → piece.length ≤ 128 →
        (s.ctl.run ≠ .idle → Refuses .patternLoad s f rest .state) ∧
        (s.ctl.run = .idle → s.chk.check ≠ none → Refuses .patternLoad s f rest .busy) ∧
        (s.ctl.run = .idle → s.chk.check = none →
          (3 < sl.toNat → Refuses .patternLoad s f rest .range) ∧
          ∀ n : Fin 4, n.val = sl.toNat →
            (start ≠ 0 → start ≠ (s.chk.patterns[n]).length → Refuses .patternLoad s f rest .range) ∧
            (256 < start + piece.length → Refuses .patternLoad s f rest .range) ∧
            (start = 0 → Answers .patternLoad s f
              { s.withReady rest with chk := { s.chk with patterns := s.chk.patterns.set n.val piece } } .done []) ∧
            (start ≠ 0 → start = (s.chk.patterns[n]).length → start + piece.length ≤ 256 → Answers .patternLoad s f
              { s.withReady rest with chk := { s.chk with
                patterns := s.chk.patterns.set n.val (s.chk.patterns[n] ++ piece) } } .done []))))

/-- GATHERING_COMPLETE moves a gathered check to RUNNING with its first pulse due at the next tick; PULSE drives the
next pulser that has not been removed at its pulser level, and opens the listening window; neither acts before its
condition is met, and neither outside ARMED while the tick counter holds at 2^48 − 1 (R2, R29, R134, R136, R138). That
it otherwise does nothing is the model's choice (log 1), and that a loss of its lane and a pulse due at one sample go in
the queue's order (log 41), and that the hold begins with the sample period in which the counter reaches 2^48 − 1 (log
42). -/
def Obligations.GatheringAndPulses : Prop :=
  ∀ (s : State) (ck : Check), s.inReset = false → s.chk.check = some ck →
    (¬s.ChecksHeld → ck.running = false →
      (∀ c : Chan, ck.involved[c] = true → ck.removed[c] = false → (s.ch c).state = .testing) →
      exec .gatheringComplete s = .next { s with chk := { s.chk with
        check := some { ck with running := true, entered := s.tick, nextPulse := s.tick + 1 } } }) ∧
    (s.ChecksHeld ∨ ck.running = true ∨
        (∃ c : Chan, ck.involved[c] = true ∧ ck.removed[c] = false ∧ (s.ch c).state ≠ .testing) →
      exec .gatheringComplete s = .next s) ∧
    (∀ (skip later : List Chan) (p : Chan), ¬s.ChecksHeld → ck.running = true → ck.kind ≠ .pattern →
      ck.pulsers = skip ++ p :: later → (∀ c ∈ skip, ck.removed[c] = true) → ck.removed[p] = false →
      ck.nextPulse ≤ s.tick → (∀ q, ck.pulse = some q → q.windowOpen = false) →
      exec .pulse s = .next { s with chk := { s.chk with check := some { ck with
        pulsers := later.filter fun c => !ck.removed[c]
        pulse := some ⟨p, s.tick, (s.ch p).cfg.pulserLevel, true, Vector.replicate 16 none⟩
        nextPulse := s.tick + ck.lw + 5000 * ck.ringDown + 1
        pulses := ck.pulses + 1 } } }) ∧
    (s.ChecksHeld ∨ ck.running = false ∨ ck.kind = .pattern ∨ s.tick < ck.nextPulse ∨
        (∀ c ∈ ck.pulsers, ck.removed[c] = true) ∨ (∃ q, ck.pulse = some q ∧ q.windowOpen = true) →
      exec .pulse s = .next s)

/-- A sample of a channel in TESTING: a listener in its window takes its first count as the response's delay and the
largest magnitude from then on as its peak; outside a window, and outside ARMED while the tick counter holds at 2^48 −
1, the sample only spoils the noise block (R2, R28, R137). LISTENING_WINDOW_END after the window's last sample: each
listener's response becomes its pair's entry, NONE or delay and amplitude code, and the window closes; before that, and
in such a hold, nothing happens (R2, R136 to R138). That nothing of the channel is due is log 4, that it otherwise does
nothing log 1, that the window's last sample must have been taken log 11, that a loss of a lane and the window's end at
one sample go in the queue's order log 41, that the hold begins with the sample period in which the counter reaches 2^48
− 1 log 42; that the noise block's position advances in TESTING is the model's reading (log 14). -/
def Obligations.ListeningMeasuresPairs : Prop :=
  (∀ (s : State) (c : Chan) (x y : Channel) (sample : Sample) (mag : Nat) (ck : Check),
      s.inReset = false → s.ch c = x → x.frameSeen = false → s.NothingDue c → x.state = .testing → x.lane = .good →
      mag = sample.toInt.natAbs → s.chk.check = some ck →
      y = { x with missingRun := 0, prevMag := mag, frameSeen := true, blockPos := x.blockPos + 1, blockBad := true } →
      (∀ q, ck.pulse = some q → ¬s.ChecksHeld → ck.running = true → q.windowOpen = true → ck.involved[c] = true →
        ck.removed[c] = false → c ≠ q.pulser → q.t0 < s.tick → s.tick ≤ q.t0 + ck.lw → ∀ r : Option Resp,
        r = (match q.resp[c] with
          | none => if bigM x.thr ≤ mag ∧ x.prevMag < bigM x.thr then some ⟨s.tick - q.t0, mag⟩ else none
          | some v => some ⟨v.delay, max v.peak mag⟩) →
        exec (.laneSample c sample) s = .next (State.setCh
          { s with chk := { s.chk with
            check := some { ck with pulse := some { q with resp := q.resp.set c.val r } } } } c y)) ∧
      (s.ChecksHeld ∨ (∀ q, ck.pulse = some q →
          q.windowOpen = false ∨ c = q.pulser ∨ s.tick ≤ q.t0 ∨ q.t0 + ck.lw < s.tick) →
        exec (.laneSample c sample) s = .next (s.setCh c y))) ∧
  (∀ (s : State) (ck : Check) (q : Pulse), s.inReset = false → s.chk.check = some ck → ck.pulse = some q →
      (¬s.ChecksHeld → q.windowOpen = true →
        (q.t0 + ck.lw < s.tick ∨ (q.t0 + ck.lw = s.tick ∧ ∀ c : Chan, ck.involved[c] = true → ck.removed[c] = false →
          c ≠ q.pulser → (s.ch c).frameSeen = true)) →
        ∃ pairs : Vector Meas 256,
          exec .listeningWindowEnd s = .next { s with chk := { s.chk with
            check := some { ck with pulse := some { q with windowOpen := false }, pairs := pairs } } } ∧
          ∀ p l : Chan,
            (p = q.pulser → l ≠ p → ck.involved[l] = true → ck.removed[l] = false →
              pairs[pairIndex p l] = match q.resp[l] with
                | none => .silent
                | some r => .heard r.delay (ampCode r.peak)) ∧
            (p ≠ q.pulser ∨ l = p ∨ ck.involved[l] = false ∨ ck.removed[l] = true →
              pairs[pairIndex p l] = ck.pairs[pairIndex p l])) ∧
      (s.ChecksHeld ∨ q.windowOpen = false ∨ s.tick < q.t0 + ck.lw → exec .listeningWindowEnd s = .next s))

/-- CHECK_COMPLETE of a SHORT or LONG check that is over: channels released, the drop range closed, the pair table kept
as latest result with pair velocities and DEGRADED marks, the baseline filled if called for, the verdicts formed and
each change told and flagged, the velocity adopted if asked, in IDLE and from at least 3, and the CHECK RESULT notice
queued with its figures; one that is not over does not complete, nor does any outside ARMED while the tick counter holds
at 2^48 − 1 (R2, R58, R88, R136, R138, R140 to R143, R147, R149). The marks are log 17, the order of the COUPLING
notices log 35, the order of the reasons log 37; that a check whose pulsers are all removed completes from GATHERING is
log 27, that one not over does nothing log 1, that a loss of a lane and the completion at one sample go in the queue's
order log 41, and so do the completion and a released channel's own sample of its tick log 43, that the hold begins with
the sample period in which the counter reaches 2^48 − 1 log 42. -/
def Obligations.CheckCompletes : Prop :=
  ∀ (s : State) (ck : Check), s.inReset = false → s.chk.check = some ck → ck.kind ≠ .pattern →
    (s.ChecksHeld ∨ (∃ c ∈ ck.pulsers, ck.removed[c] = false) ∨
        (∃ q, ck.pulse = some q ∧ (q.windowOpen = true ∨ s.tick + 1 < ck.nextPulse)) →
      exec .checkComplete s = .next s) ∧
    ∀ (fills : Prop) (base : Vector (Option Nat) 256) (deg : Fin 256 → Prop), ¬s.ChecksHeld →
      (∀ c ∈ ck.pulsers, ck.removed[c] = true) →
      (∀ q, ck.pulse = some q → q.windowOpen = false ∧ ck.nextPulse ≤ s.tick + 1) →
      (fills ↔ ck.kind = .long ∧ (s.chk.baselineHeld = false ∨ ck.rebase = true)) →
      (∀ i : Fin 256, (fills → base[i] = match ck.pairs[i] with | .heard _ code => some code | _ => none) ∧
        (¬fills → base[i] = s.chk.baseline[i])) →
      (∀ i : Fin 256, deg i ↔ (ck.pairs[i] = .silent ∧ base[i] ≠ none) ∨
        ∃ d code b, ck.pairs[i] = .heard d code ∧ base[i] = some b ∧ ck.tolerance < b - code) →
      ∃ (res : Vector PairResult 256) (verdicts : Vector Verdict 16) (changed : Vector Bool 16) (vels : List Nat)
        (estimate : Option Nat) (adoption : Adoption) (action : BaseAction) (held : Bool),
        (∀ i, (res[i]).meas = ck.pairs[i] ∧ ((res[i]).degraded = true ↔ deg i)) ∧
        (∀ p l : Chan, ∀ i, i = pairIndex p l →
          (∀ d code g a b, ck.pairs[i] = .heard d code → s.loc.geom = some g → g.pos[p] = some a → g.pos[l] = some b →
            (g.dist a b = 0 → (res[i]).vel = .absent) ∧
            (g.dist a b ≠ 0 → ∀ v, v = (g.dist a b * 5000 + d / 2) / d →
              (res[i]).vel = if 500 ≤ v ∧ v ≤ 9999 then .valid v else .invalid v)) ∧
          (ck.pairs[i] = .silent ∨ ck.pairs[i] = .notMeasured ∨ s.loc.placed p = false ∨ s.loc.placed l = false →
            (res[i]).vel = .absent)) ∧
        (∀ c : Chan, ∀ heard : Chan → Prop, (∀ p, heard p ↔ ck.pairs[pairIndex p c] ≠ .notMeasured) →
          (ck.removed[c] = true ∨ (∀ p, ¬heard p) → verdicts[c] = s.chk.verdicts[c]) ∧
          (ck.removed[c] = false → (∃ p, heard p) →
            ((∀ p, heard p → base[pairIndex p c] = none) → verdicts[c] = .unknown) ∧
            ((∃ p, heard p ∧ base[pairIndex p c] ≠ none) →
              (∀ p, heard p → base[pairIndex p c] ≠ none → deg (pairIndex p c)) → verdicts[c] = .poor) ∧
            ((∃ p, heard p ∧ base[pairIndex p c] ≠ none ∧ ¬deg (pairIndex p c)) → verdicts[c] = .good))) ∧
        (∀ c : Chan, changed[c] = decide (verdicts[c] ≠ s.chk.verdicts[c])) ∧
        vels = ((List.finRange 256).filterMap fun i => match (res[i]).vel with | .valid v => some v | _ => none) ∧
        estimate = (vels.insertionSort (· ≤ ·))[(vels.length - 1) / 2]? ∧
        adoption = (if ck.adopt = false then .notAsked else if s.ctl.run ≠ .idle then .notIdle
          else if vels.length < 3 then .tooFew else .adopted) ∧
        (fills → action = if s.chk.baselineHeld = true then .rebased else .filled) ∧ (¬fills → action = .kept) ∧
        (held = true ↔ s.chk.baselineHeld = true ∨ fills) ∧
        exec .checkComplete s = .next (State.notify
          ((allChans.filter fun c => changed[c]).foldl
            (fun u c => u.notify (.faultCoupling s.tick c s.chk.verdicts[c] verdicts[c]))
            (State.mapCh
              { s with
                chk := { s.chk with
                  check := none, latest := some res, verdicts := verdicts, baseline := base, baselineHeld := held }
                loc := { s.loc with
                  v := if ck.kind = .long ∧ adoption = .adopted then estimate.getD s.loc.v else s.loc.v }
                dropRange := if ck.startRun = .armed then closeSpan s.tick s.dropRange else s.dropRange }
              fun c x => { x with
                state := if ck.involved[c] = true ∧ x.state = .testing then .quiet else x.state
                faultChanged := x.faultChanged || changed[c] }))
          (.checkResult ck.kind ck.startTick s.tick ck.startRun (.pairs ck.pulses
            ((List.finRange 256).filter fun i => decide (ck.pairs[i] ≠ .notMeasured)).length
            ((List.finRange 256).filter fun i => decide (ck.pairs[i] ≠ .notMeasured ∧ ck.pairs[i] ≠ .silent)).length
            ((List.finRange 256).filter fun i => (res[i]).degraded).length vels.length
            (if ck.kind = .long then estimate else none) (if ck.kind = .long then some adoption else none)
            action verdicts changed)))

/-- PATTERN: CHECK_COMPLETE once every involved channel's outcome is decided releases the channels and tells the
outcomes; PATTERN_OUTCOME decides NONE when the slot has passed without a count, and a hit at its normal or forced end;
a decided outcome stands (R146, R147). A TICK of a running PATTERN check with no outcome due: every channel whose
outcome is open takes the slot's next sample, 0 after the last, as a lane's sample: its first count opens the replayed
hit, later ones measure it (R146); no other step is due at the close of that sample period. Outside ARMED, while the
tick counter holds at 2^48 − 1, none of the three does anything to the check (R2, R136; the TICK as the statement of
TICK says). That it otherwise does nothing is the model's choice (log 1). That a TICK first takes the outcomes that are
due is log 4; that a loss of a lane and the completion at one sample go in the queue's order is log 41, and so do the
completion and a released channel's own sample of its tick (log 43), that the hold begins with the sample period in
which the counter reaches 2^48 − 1 is log 42. -/
def Obligations.PatternReplaysToOutcomes : Prop :=
  (∀ (s : State) (ck : Check), s.inReset = false → s.chk.check = some ck → ck.kind = .pattern →
      (¬s.ChecksHeld → (∀ c : Chan, ck.involved[c] = true → (ck.replay[c]).outcome ≠ none) →
        ∃ out : Vector (Option PatOutcome) 16,
          (∀ c : Chan, out[c] = if ck.involved[c] = true then (ck.replay[c]).outcome else none) ∧
          exec .checkComplete s = .next (State.notify
            (State.mapCh
              { s with
                chk := { s.chk with check := none }
                dropRange := if ck.startRun = .armed then closeSpan s.tick s.dropRange else s.dropRange }
              fun c x => if ck.involved[c] = true ∧ x.state = .testing then { x with state := .quiet } else x)
            (.checkResult .pattern ck.startTick s.tick ck.startRun (.pattern ck.slot out)))) ∧
      (s.ChecksHeld ∨ (∃ c : Chan, ck.involved[c] = true ∧ (ck.replay[c]).outcome = none) →
        exec .checkComplete s = .next s) ∧
      (∀ c : Chan, ¬s.ChecksHeld → ck.running = true → ck.involved[c] = true → ck.removed[c] = false →
        ∀ w : Replay, ck.replay[c] = w →
        w.outcome = none → ∀ put : PatOutcome → State,
        (∀ o, put o = { s with chk := { s.chk with
          check := some { ck with replay := ck.replay.set c.val { w with outcome := some o } } } }) →
        (w.hit = none →
          ((s.chk.patterns[ck.slot]).length ≤ s.tick - ck.entered →
            exec (.patternOutcome c) s = .next (put .silent)) ∧
          (s.tick - ck.entered < (s.chk.patterns[ck.slot]).length → exec (.patternOutcome c) s = .next s)) ∧
        (∀ (h : Hit) (g : ChanCfg) (o : Bool → PatOutcome), w.hit = some h → g = (s.ch c).cfg →
          (∀ long, o long = .hit (h.arrival - ck.entered - 1) (min 65535 (h.peakTick - h.arrival))
            (h.lastCount - h.arrival) (min 65535 h.counts) (min 4294967295 (h.energySum / 65536))
            (min 127 (ampCode h.peak + g.refOffset)) h.clipped long) →
          (h.lastCount + g.hdt ≤ s.tick → h.lastCount + g.hdt ≤ h.arrival + g.maxDur →
            exec (.patternOutcome c) s = .next (put (o false))) ∧
          (h.arrival + g.maxDur ≤ s.tick → h.arrival + g.maxDur < h.lastCount + g.hdt →
            exec (.patternOutcome c) s = .next (put (o true))) ∧
          (s.tick < h.lastCount + g.hdt → s.tick < h.arrival + g.maxDur → exec (.patternOutcome c) s = .next s))) ∧
      (∀ c : Chan, s.ChecksHeld ∨ (ck.replay[c]).outcome ≠ none → exec (.patternOutcome c) s = .next s)) ∧
  (∀ (s : State) (ck : Check), s.inReset = false → s.chk.check = some ck → ck.kind = .pattern → ck.running = true →
      s.tick < 281474976710655 → s.tick + 1 < 281474976710655 ∨ s.ctl.run = .armed → s.NothingToClose →
      (∀ c, exec (.patternOutcome c) s = .next s) →
      ∃ (t : State) (re : Vector Replay 16), exec .tick s = .next t ∧
        t.chk = { s.chk with check := some { ck with replay := re } } ∧
        ∀ (c : Chan) (w : Replay), w = ck.replay[c] →
          (ck.involved[c] = false ∨ ck.removed[c] = true ∨ w.outcome ≠ none → re[c] = w) ∧
          (ck.involved[c] = true → ck.removed[c] = false → w.outcome = none →
            ∀ (v : Sample) (mag : Nat) (clip fixed : Bool) (count : Prop),
            v = (s.chk.patterns[ck.slot]).getD (s.tick - ck.entered) 0 → mag = v.toInt.natAbs →
            clip = decide (v = 0x8000#16 ∨ v = 0x7FFF#16) →
            (count ↔ bigM (s.ch c).thr ≤ mag ∧ w.prev < bigM (s.ch c).thr) →
            (w.hit = none → ¬count → re[c] = { w with prev := mag }) ∧
            (w.hit = none → count → ∃ h, re[c] = { w with prev := mag, hit := some h } ∧
              h.arrival = s.tick + 1 ∧ h.lastCount = s.tick + 1 ∧ h.counts = 1 ∧ h.peak = mag ∧
              h.peakTick = s.tick + 1 ∧ h.peakFixed = false ∧ h.energySum = mag * mag ∧ h.running = mag * mag ∧
              h.clipped = clip) ∧
            (∀ h, w.hit = some h →
              fixed = (h.peakFixed || decide (h.peakTick + (s.ch c).cfg.pdt < s.tick + 1)) →
              (count → re[c] = { w with prev := mag, hit := some { h with
                peakFixed := fixed
                peak := if fixed = false ∧ h.peak < mag then mag else h.peak
                peakTick := if fixed = false ∧ h.peak < mag then s.tick + 1 else h.peakTick
                running := h.running + mag * mag
                counts := h.counts + 1, lastCount := s.tick + 1, energySum := h.running + mag * mag
                clipped := h.clipped || clip } }) ∧
              (¬count → re[c] = { w with prev := mag, hit := some { h with
                peakFixed := fixed
                peak := if fixed = false ∧ h.peak < mag then mag else h.peak
                peakTick := if fixed = false ∧ h.peak < mag then s.tick + 1 else h.peakTick
                running := h.running + mag * mag
                clipped := h.clipped || clip } }))))

/-- CHECK ABORT: FORMAT with a payload, STATE while READY; otherwise DONE is replied, and the check is aborted:
channels in TESTING released, the drop range closed, the notice with reason REQUEST queued, and nothing else kept or
changed (R148; that the reply comes first is the rule's, log 19 elsewhere; that the abort and a released channel's own
sample of its tick go in the queue's order is log 43). -/
def Obligations.CheckAbortReleases : Prop :=
  ∀ (s : State) (f : Frame) (rest : List Frame), s.Takes f rest → f.kind = 0x16#8 →
    (f.payload ≠ [] → Refuses .checkAbort s f rest .format) ∧
    (f.payload = [] → s.chk.check = none → Refuses .checkAbort s f rest .state) ∧
    (f.payload = [] → ∀ (ck : Check) (u : State), s.chk.check = some ck →
      u = (s.withReady rest).answer f .done [] →
      exec .checkAbort s = .next (State.notify
        (State.mapCh
          { u with
            chk := { s.chk with check := none }
            dropRange := if ck.startRun = .armed then closeSpan s.tick s.dropRange else s.dropRange }
          fun c x => if ck.involved[c] = true ∧ x.state = .testing then { x with state := .quiet } else x)
        (.checkResult ck.kind ck.startTick s.tick ck.startRun (.aborted .request))))

/-- BASELINE READ is served in every run state: status, policy and verdicts, with the 256 baseline entries (FFh where
absent) or the latest result with its velocity map; another selector is RANGE, another length FORMAT; nothing changes
(R149, 11.4). Which of the two rows takes a wrong length or an unlisted selector is the model's choice (log 5); so are
the entries sent while no latest result is present (log 38). -/
def Obligations.BaselineReadsServe : Prop :=
  ∀ (s : State) (f : Frame) (rest : List Frame) (head : List Byte) (res : Vector PairResult 256)
    (vel : Nat → Nat), s.Takes f rest → f.kind = 0x18#8 →
    head = be 1 (if s.chk.baselineHeld = true then 1 else 0) ++ be 1 s.chk.policy.code ++
      be 4 (packVerdicts s.chk.verdicts) →
    res = (match s.chk.latest with | some r => r | none => Vector.replicate 256 ⟨.notMeasured, .absent, false⟩) →
    (∀ i : Fin 256, vel i.val = match (res[i]).vel with | .absent => 0 | .valid _ => 1 | .invalid _ => 2) →
    (f.payload.length ≠ 1 → Refuses .baselineRead s f rest .format) ∧
    (∀ b : Byte, f.payload = [b] → b ≠ 0#8 → b ≠ 1#8 → Refuses .baselineRead s f rest .range) ∧
    (f.payload = [0#8] → Answers .baselineRead s f (s.withReady rest) .done
      (head ++ allChans.flatMap fun p => allChans.flatMap fun l =>
        be 1 ((s.chk.baseline[pairIndex p l]).getD 255))) ∧
    (f.payload = [1#8] → Answers .baselineReadLatest s f (s.withReady rest) .done
      (head ++ be 1 (if s.chk.latest = none then 0 else 1) ++
        (allChans.flatMap fun p => allChans.flatMap fun l => match (res[pairIndex p l]).meas with
          | .heard delay code => be 2 delay ++ be 1 (code + if (res[pairIndex p l]).degraded then 128 else 0)
          | .silent => [0#8, 0#8, if (res[pairIndex p l]).degraded then 0xFE#8 else 0x7E#8]
          | .notMeasured => [0#8, 0#8, if (res[pairIndex p l]).degraded then 0xFF#8 else 0x7F#8]) ++
        (List.range 64).flatMap fun k => be 1 (vel (4 * k) + 4 * vel (4 * k + 1) + 16 * vel (4 * k + 2) +
          64 * vel (4 * k + 3))))

/-! ### Run control (08) -/

/-- STOP, and the drain it begins: STOP is refused with a payload or outside ARMED, and freezes the run in ARMED;
DRAIN_COMPLETE moves FREEZING to FROZEN once list, associator and locator are empty, no hit is to be cut and no offer
waits, with the final counts of the arming in its RUN notice, and otherwise does nothing (R55, R155, R156, R160). That
it otherwise does nothing is the model's choice (log 1). That the RUN notice comes before the reply is log 19; that cuts
wait for their samples, and the drain for them, is log 34; that the sample of the tick of entry belongs to a hit that is
cut is log 40, and that a hit whose normal end falls at the sample of its cut ends without a tag log 15. -/
def Obligations.StopFreezesAndTheDrainEnds : Prop :=
  (∀ (s : State) (f : Frame) (rest : List Frame), s.Takes f rest → f.kind = 0x10#8 →
    (f.payload ≠ [] → Refuses .stop s f rest .format) ∧
    (f.payload = [] → s.ctl.run ≠ .armed → Refuses .stop s f rest .state) ∧
    (f.payload = [] → s.ctl.run = .armed →
      Answers .stop s f ((s.withReady rest).frozen .stop .stop .plain) .done [])) ∧
  ∀ (s : State) (sum : (Channel → Nat) → Nat), s.inReset = false →
    (∀ g, sum g = min 4294967295 ((allChans.map fun c => g (s.ch c)).sum)) →
    (s.ctl.run = .freezing → (∀ c h, (s.ch c).state ≠ .hit h) → s.offers = [] → s.hitList = [] →
      s.assoc.openEvent = none → s.loc.queue = [] → s.loc.busy = none →
      exec .drainComplete s = .next (State.notify { s with ctl := { s.ctl with run := .frozen } }
        (.run .drain .frozen .freezing s.tick s.assoc.eventNo
          (.drain s.ctl.freeze (sum Channel.ended) (sum Channel.entered) (sum Channel.dropped) (sum Channel.lone)
            s.ctl.numbered s.ctl.located s.assoc.lastEvent)))) ∧
    (s.ctl.run ≠ .freezing ∨ (∃ c h, (s.ch c).state = .hit h) ∨ s.offers ≠ [] ∨ s.hitList ≠ [] ∨
        s.assoc.openEvent ≠ none ∨ s.loc.queue ≠ [] ∨ s.loc.busy ≠ none →
      exec .drainComplete s = .next s)

/-- ARM by its tests: FORMAT, BUSY in FREEZING or with a check in progress, STATE in ARMED, RANGE for an unlisted
mode, STATE for RESUME in IDLE; otherwise FRESH starts a new run and RESUME continues the frozen one, which freezes at
once with a kept tick of 2^48 − 1 (R152, R153, R154). That the RUN notice comes before the reply is log 19; which row
takes which mode is log 5. Were a hit in progress at that freeze, its cut would be as logs 15, 34 and 40 say. -/
def Obligations.ArmByItsTests : Prop :=
  ∀ (s : State) (f : Frame) (rest : List Frame), s.Takes f rest → f.kind = 0x0F#8 →
    (f.payload.length ≠ 1 → Refuses .arm s f rest .format) ∧
    ∀ (m : Byte) (i : Instr) (x : State), f.payload = [m] → i = (if m = 1#8 then .armResume else .arm) →
      x = s.withReady rest →
      (s.ctl.run = .freezing ∨ s.chk.check ≠ none → Refuses i s f rest .busy) ∧
      (s.chk.check = none → s.ctl.run = .armed → Refuses i s f rest .state) ∧
      (s.chk.check = none → s.Configurable →
        (m ≠ 0#8 → m ≠ 1#8 → Refuses i s f rest .range) ∧
        (m = 1#8 → s.ctl.run = .idle → Refuses i s f rest .state) ∧
        (m = 0#8 → ∃ t, t = State.notify
          { x with
            tick := 0
            press := { s.press with
              history := [], pFilt := 0, pMax := 0, pPrev := 0, pRef := 0, stable := 0, phase := .ramp, holdIndex := 0
              spanOpen := false, spanCount := 0, spanMarked := false, onsetRatio := none, awaiting := true }
            chans := Vector.ofFn fun c => { s.chans[c] with
              state := if (s.ch c).cfg.enable then (if (s.ch c).lane = .good then .quiet else .fault) else .off
              pendingThr := none, settleDue := false
              ended := 0, entered := 0, dropped := 0, lone := 0, faults := 0 }
            hitList := [], dropRange := none, offers := []
            assoc := { s.assoc with openEvent := none, lockoutUntil := 0, position := 0, eventNo := 1, lastEvent := 0 }
            loc := { s.loc with queue := [], busy := none }
            map := { s.map with
              cells := List.replicate s.map.cells.length ⟨0, 0, 0, 0, 0, 0, .clear⟩
              zones := Vector.replicate 16 ⟨0, 0, 0⟩, ack := Vector.replicate 4 false, latch := false }
            ctl := { s.ctl with
              run := .armed, freeze := none, clipTicks := Vector.replicate 16 none, numbered := 0, located := 0 }
            rep := { s.rep with
              data := [], level := s.rep.ceiling, snapshot := ⟨Vector.replicate 16 ⟨0, 0, 0⟩, 0, 0⟩ } }
          (.run .arm .armed s.ctl.run 0 1 .plain) ∧ Answers i s f t .done []) ∧
        (m = 1#8 → s.ctl.run = .frozen → ∃ u, u = State.notify
          { x with
            press := { s.press with history := [], awaiting := true }
            chans := Vector.ofFn fun c => { s.chans[c] with ended := 0, entered := 0, dropped := 0, lone := 0 }
            hitList := [], dropRange := none, offers := []
            assoc := { s.assoc with openEvent := none, lockoutUntil := 0, position := s.tick }
            loc := { s.loc with queue := [], busy := none }
            ctl := { s.ctl with
              run := .armed, freeze := none, clipTicks := Vector.replicate 16 none, numbered := 0, located := 0 }
            rep := { s.rep with snapshot := ⟨Vector.replicate 16 ⟨0, 0, 0⟩, 0, 0⟩ } }
          (.run .armResume .armed .frozen s.tick s.assoc.eventNo .plain) ∧
          (s.tick ≠ 281474976710655 → Answers i s f u .done []) ∧
          (s.tick = 281474976710655 → Answers i s f (u.frozen .timeLimit .timeLimit .plain) .done [])))

/-- What a full reset, a run reset, a fresh ARM and ARM RESUME leave in run control (R165). -/
def Obligations.RunControlSetBack : Prop :=
  ∀ s : State,
    (∀ baud, ∃ t u, exec .fullReset s = .next t ∧ exec (.fullResetEnd baud) t = .next u ∧
      u.ctl.run = .idle ∧ u.ctl.freeze = none ∧ u.ctl.rw = 2500 ∧ u.ctl.rc = 8 ∧ u.ctl.d = 0 ∧
      (∀ c : Chan, u.ctl.clipTicks[c] = none) ∧ u.ctl.numbered = 0 ∧ u.ctl.located = 0) ∧
    ∀ (f : Frame) (rest : List Frame) (set : RunState → Option FreezeReason → RunCtl), s.Takes f rest →
      (∀ run why, set run why = { s.ctl with
        run := run, freeze := why, clipTicks := Vector.replicate 16 none, numbered := 0, located := 0 }) →
      (f.kind = 0x03#8 → f.payload = [] → ∃ t, Answers .resetRun s f t .done [] ∧ t.ctl = set .idle none) ∧
      (s.Configurable → s.chk.check = none → f.kind = 0x0F#8 → f.payload = [0#8] →
        ∃ t, Answers .arm s f t .done [] ∧ t.ctl = set .armed none) ∧
      (s.ctl.run = .frozen → s.chk.check = none → f.kind = 0x0F#8 → f.payload = [1#8] →
        ∃ t, Answers .armResume s f t .done [] ∧
          t.ctl = if s.tick = 281474976710655 then set .freezing (some .timeLimit) else set .armed none)

/-- RESET RUN in every run state, and the full reset. RESET RUN starts the run again in IDLE and keeps the DROP change
flag; the flag is set first where the list has no place for an offer that waits or for a hit that a freeze has still to
cut, whose pending threshold its cut applies (R25, R37, R49, R55, R61, R148, R162; that a run reset takes what waits is
log 34). FULL_RESET puts every block at its reset values and holds it, FULL_RESET_END takes the line rate, starts the
receiver and queues the RUN notice; without a reset held it does nothing, which is the model's choice (log 1) (R163,
R179; the run state the notice gives as the one before is log 10). That the RUN notice comes before the reply is log 19.
-/
def Obligations.ResetsTaken : Prop :=
  (∀ (s : State) (f : Frame) (rest : List Frame), s.Takes f rest → f.kind = 0x03#8 →
    (f.payload ≠ [] → Refuses .resetRun s f rest .format) ∧
    (f.payload = [] → ∀ n : Nat, n = s.offers.length + (if s.ctl.run = .freezing then
        (allChans.filter fun c => (s.ch c).holdsAt.isSome).length else 0) → ∃ t, t = State.notify
      { s.withReady rest with
        tick := 0
        press := { s.press with
          history := [], pFilt := 0, pMax := 0, pPrev := 0, pRef := 0, stable := 0, phase := .ramp, holdIndex := 0
          spanOpen := false, spanCount := 0, spanMarked := false, onsetRatio := none, awaiting := true }
        chans := Vector.ofFn fun c =>
          { (if s.ctl.run = .freezing ∧ (s.ch c).holdsAt.isSome then (s.ch c).withPending else s.ch c) with
            state := if (s.ch c).cfg.enable then (if (s.ch c).lane = .good then .quiet else .fault) else .off
            pendingThr := none, settleDue := false, ended := 0, entered := 0, dropped := 0, lone := 0, faults := 0 }
        hitList := [], dropRange := none, offers := []
        dropFlag := s.dropFlag || decide (n ≠ 0 ∧ 512 < s.hitList.length + n)
        assoc := { s.assoc with openEvent := none, lockoutUntil := 0, position := 0, eventNo := 1, lastEvent := 0 }
        loc := { s.loc with queue := [], busy := none }
        map := { s.map with
          cells := List.replicate s.map.cells.length ⟨0, 0, 0, 0, 0, 0, .clear⟩
          zones := Vector.replicate 16 ⟨0, 0, 0⟩, ack := Vector.replicate 4 false, latch := false }
        chk := { s.chk with check := none }
        ctl := { s.ctl with
          run := .idle, freeze := none, clipTicks := Vector.replicate 16 none, numbered := 0, located := 0 }
        rep := { s.rep with
          data := [], level := s.rep.ceiling, snapshot := ⟨Vector.replicate 16 ⟨0, 0, 0⟩, 0, 0⟩ } }
      (.run .resetRun .idle s.ctl.run 0 1 .plain) ∧ Answers .resetRun s f t .done [])) ∧
  ∀ s : State,
    exec .fullReset s = .next
      { State.defaults with
        pending := s.pending
        inReset := true
        press := { Pressure.reset with converting := false }
        ctl := { RunCtl.reset with runBefore := if s.inReset then s.ctl.runBefore else s.ctl.run }
        link := { Link.reset with rx := .reset }
        rep := { Report.reset with hrdy := s.rep.hrdy } } ∧
    ∀ baud, (s.inReset = false → exec (.fullResetEnd baud) s = .next s) ∧
      (s.inReset = true → exec (.fullResetEnd baud) s = .next (State.notify
        { State.defaults with
          pending := s.pending
          ctl := { RunCtl.reset with runBefore := s.ctl.runBefore }
          link := { Link.reset with rate := baud }
          rep := { Report.reset with hrdy := s.rep.hrdy } }
        (.run .fullReset .idle s.ctl.runBefore 0 1 .plain)))

/-! ### The link (09) -/

/-- IDENTIFY in every run state: part code, revision 1, 16 channels, payload limit 1020 and the line rate, which only
a full reset changes (R176, 11.2, 11.4). -/
def Obligations.IdentifyServed : Prop :=
  (∀ (s : State) (f : Frame) (rest : List Frame), s.Takes f rest → f.kind = 0x01#8 →
    (f.payload ≠ [] → Refuses .identify s f rest .format) ∧
    (f.payload = [] → Answers .identify s f (s.withReady rest) .done
      [0x4E#8, 0x16#8, 1#8, 16#8, 3#8, 0xFC#8, s.link.rate.zeroExtend 8])) ∧
  ∀ (c : Instr) (s t : State), c ≠ .fullReset → (∀ b, c ≠ .fullResetEnd b) → exec c s = .next t →
    t.link.rate = s.link.rate

/-- STATUS in every run state: the values at the take, with every change flag given and cleared as one change; and a
frame of unknown kind is answered UNKNOWN and changes nothing (R174, R177, R178, 11.4). -/
def Obligations.StatusServedAndUnknownAnswered : Prop :=
  ∀ (s : State) (f : Frame) (rest : List Frame), s.Takes f rest →
    (f.kind = 0x02#8 → f.payload ≠ [] → Refuses .status s f rest .format) ∧
    (f.kind = 0x02#8 → f.payload = [] → Answers .status s f
      { s.withReady rest with
        chans := Vector.ofFn fun c => { s.chans[c] with faultChanged := false }
        press := { s.press with flagChanged := false }
        dropFlag := false
        rep := { s.rep with noticeLostFlag := false } }
      .done
      (be 1 s.ctl.run.code ++ be 1 (freezeCode s.ctl.freeze) ++ be 1 (testCode s.ctl.freeze) ++ be 6 s.tick ++
        be 3 s.press.pFilt ++ be 3 s.press.pMax ++ be 1 s.press.phase.code ++ be 1 s.press.holdIndex ++
        be 1 s.press.flag.code ++ be 1 s.press.spanOpen.toNat ++ be 2 (s.press.onsetRatio.getD 0) ++
        be 1 s.press.onsetRatio.isSome.toNat ++ be 1 s.rep.level.code ++ be 2 s.hitList.length ++
        be 1 s.loc.queue.length ++ be 2 s.rep.data.length ++ be 1 s.rep.notices.length ++
        (match s.chk.check with
          | none => [0#8, 0#8]
          | some ck => be 1 (if ck.running then 2 else 1) ++ be 1 ck.kind.code) ++
        be 2 s.link.framing ++ be 2 s.link.overrun ++ be 2 s.link.crc ++ be 2 s.link.length ++ be 2 s.link.truncated ++
        be 2 s.link.brk ++ be 2 (flagBits (allChans.map fun c => (s.ch c).faultChanged)) ++
        be 1 (flagBits [s.press.flagChanged, s.dropFlag, s.rep.noticeLostFlag]))) ∧
    (f.kind = 0#8 ∨ 0x18 < f.kind.toNat → Refuses .unknownKind s f rest .unknown)

/-- The configuration requests other than CHANNEL SET and REPORT SET: FORMAT for a wrong payload length in every run
state, then BUSY in FREEZING and STATE in ARMED, with nothing changed (R161, R175). That the SENSOR PLACE row takes a
wrong length and every action but unplace, and the SENSOR UNPLACE row that action, is the model's choice (log 5). -/
def Obligations.ConfigRequestsRefused : Prop :=
  ∀ (s : State) (f : Frame) (rest : List Frame), s.Takes f rest →
    (∀ (i : Instr) (k : Byte) (n : Nat),
      (i, k, n) ∈ [(Instr.pressureSet, 0x06#8, 12), (.geometrySet, 0x07#8, 8), (.windowSet, 0x09#8, 5),
        (.zoneSet, 0x0A#8, 6), (.associationSet, 0x0B#8, 6), (.ruptureSet, 0x0D#8, 5)] → f.kind = k →
      (f.payload.length ≠ n → Refuses i s f rest .format) ∧
      (f.payload.length = n → s.ctl.run = .freezing → Refuses i s f rest .busy) ∧
      (f.payload.length = n → s.ctl.run = .armed → Refuses i s f rest .state)) ∧
    (f.kind = 0x08#8 → f.payload.length ≠ 6 → Refuses .sensorPlace s f rest .format) ∧
    (∀ (i : Instr) (ch a s1 s0 z1 z0 : Byte), f.kind = 0x08#8 → f.payload = [ch, a, s1, s0, z1, z0] →
      i = (if a = 0#8 then .sensorUnplace else .sensorPlace) →
      (s.ctl.run = .freezing → Refuses i s f rest .busy) ∧ (s.ctl.run = .armed → Refuses i s f rest .state))

/-- The receiver reads back what a sender frames: in HUNT with a slot free, any bytes without C3h and then the frame of
any kind, tag and payload up to 1020 bytes make exactly that frame READY, behind the older one (R167 to R170). The CRC
starts at FFFFh and takes each byte most significant bit first; that of the characters 123456789 is 29B1h (R168). One
byte by the receiver's state: in HUNT C3h leads to SYNC and any other is discarded; in SYNC 3Ch leads to FRAME, C3h
stays, and any other returns to HUNT; in FRAME it joins the frame, and the last CRC byte of a right frame makes it
READY; in BREAK and RESET it is not taken (R169, R170, R172). A frame may come in several commands: bytes sent together
and bytes sent one part after the other leave the same state. That bytes first take a TRUNCATED that is due is log 4. -/
def Obligations.ReceiverReadsFrames : Prop :=
  (crc16 [] = 0xFFFF#16 ∧
    (∀ (bs : List Byte) (b : Byte), crc16 (bs ++ [b]) = (List.range 8).foldl (fun (reg : BitVec 16) k =>
      (reg <<< 1) ^^^ if reg.msb = b.getLsbD (7 - k) then 0#16 else 0x1021#16) (crc16 bs)) ∧
    crc16 [0x31#8, 0x32#8, 0x33#8, 0x34#8, 0x35#8, 0x36#8, 0x37#8, 0x38#8, 0x39#8] = 0x29B1#16) ∧
  (∀ (s : State) (noise payload : List Byte) (kind tag : Byte),
    s.inReset = false → s.link.rx = .hunt → s.link.ready.length < 2 → 0xC3#8 ∉ noise → payload.length ≤ 1020 →
    exec (.frameReceived (noise ++ frameBytes kind tag payload)) s = .next
      { s with link := { s.link with rx := .hunt, timer := 0, ready := s.link.ready ++ [⟨kind, tag, payload⟩] } }) ∧
  (∀ (s : State) (b : Byte) (into : RxState → State), s.inReset = false →
    (∀ rx, into rx = { s with link := { s.link with rx := rx, timer := 0 } }) →
    (s.link.rx = .hunt → exec (.frameReceived [b]) s = .next (if b = 0xC3#8 then into .sync else s)) ∧
    (s.link.rx = .sync → exec (.frameReceived [b]) s = .next
      (if b = 0x3C#8 then into (.frame []) else if b = 0xC3#8 then s else into .hunt)) ∧
    (∀ got, s.link.rx = .frame got → s.link.timer < 50000 →
      (got.length < 3 → (got = [] → s.link.ready.length < 2) →
        exec (.frameReceived [b]) s = .next (into (.frame (got ++ [b])))) ∧
      (∀ (kind tag n1 n0 : Byte) (more : List Byte) (n : Nat), got ++ [b] = kind :: tag :: n1 :: n0 :: more →
        n = n1.toNat * 256 + n0.toNat → n ≤ 1020 →
        (more.length < n + 2 → exec (.frameReceived [b]) s = .next (into (.frame (got ++ [b])))) ∧
        (∀ (payload : List Byte) (c1 c0 : Byte), more = payload ++ [c1, c0] → payload.length = n →
          c1.toNat * 256 + c0.toNat = (crc16 (kind :: tag :: n1 :: n0 :: payload)).toNat →
          exec (.frameReceived [b]) s = .next { s with link := { s.link with
            rx := .hunt, timer := 0, ready := s.link.ready ++ [⟨kind, tag, payload⟩] } }))) ∧
    (s.link.rx = .brk ∨ s.link.rx = .reset → exec (.frameReceived [b]) s = .next s)) ∧
  (∀ (s : State) (a b : List Byte), ∃ t, exec (.frameReceived a) s = .next t ∧
    exec (.frameReceived (a ++ b)) s = exec (.frameReceived b) t) ∧
  ∀ (s : State) (got bytes : List Byte), s.inReset = false → s.link.rx = .frame got → 50000 ≤ s.link.timer →
    ∃ t, exec .truncated s = .next t ∧ exec (.frameReceived bytes) s = exec (.frameReceived bytes) t

/-- Receive errors: a wrong CRC, a third frame and a length above 1020 each discard the frame, count, tell and hunt;
so do a framing error and 10 ms of silence in FRAME; a break empties the slots and holds the receiver in BREAK until
its end (R169, R171, R172). That it otherwise does nothing is the model's choice (log 1). -/
def Obligations.ReceiveErrorsDiscard : Prop :=
  ∀ (s : State) (fail : RxError → Link → RxState → State), s.inReset = false →
    (∀ e l rx, fail e l rx = State.notify { s with link := { l with rx := .hunt, timer := 0 } }
      (.linkError e (l.count e) rx)) →
    (s.link.rx = .hunt →
      (∀ (body : List Byte) (kind tag n1 n0 c1 c0 : Byte) (payload : List Byte), s.link.ready.length < 2 →
        body = kind :: tag :: n1 :: n0 :: payload → payload.length = n1.toNat * 256 + n0.toNat →
        payload.length ≤ 1020 → c1.toNat * 256 + c0.toNat ≠ (crc16 body).toNat →
        exec (.frameReceived (0xC3#8 :: 0x3C#8 :: body ++ [c1, c0])) s = .next
          (fail .crc { s.link with crc := min 65535 (s.link.crc + 1) } (.frame (body ++ [c1])))) ∧
      (∀ kind : Byte, 2 ≤ s.link.ready.length → exec (.frameReceived [0xC3#8, 0x3C#8, kind]) s = .next
        (fail .overrun { s.link with overrun := min 65535 (s.link.overrun + 1) } (.frame []))) ∧
      (∀ kind tag n1 n0 : Byte, s.link.ready.length < 2 → 1020 < n1.toNat * 256 + n0.toNat →
        exec (.frameReceived [0xC3#8, 0x3C#8, kind, tag, n1, n0]) s = .next
          (fail .length { s.link with length := min 65535 (s.link.length + 1) } (.frame [kind, tag, n1])))) ∧
    (∀ got, s.link.rx = .frame got → 50000 ≤ s.link.timer → exec .truncated s = .next
      (fail .truncated { s.link with truncated := min 65535 (s.link.truncated + 1) } s.link.rx)) ∧
    ((∀ got, s.link.rx ≠ .frame got) ∨ s.link.timer < 50000 →
      exec .truncated s = .next s ∧
      (s.link.rx ≠ .brk → s.link.rx ≠ .reset →
        exec .framingError s = .next
          (fail .framing { s.link with framing := min 65535 (s.link.framing + 1) } s.link.rx) ∧
        exec .lineBreak s = .next (State.notify
          { s with link := { s.link with brk := min 65535 (s.link.brk + 1), rx := .brk, timer := 0, ready := [] } }
          (.linkError .brk (min 65535 (s.link.brk + 1)) s.link.rx)))) ∧
    (s.link.rx = .brk ∨ s.link.rx = .reset →
      exec .framingError s = .next s ∧ exec .lineBreak s = .next s) ∧
    (s.link.rx = .brk → exec .lineBreakEnd s = .next { s with link := { s.link with rx := .hunt, timer := 0 } }) ∧
    (s.link.rx ≠ .brk → exec .lineBreakEnd s = .next s)

/-! ### Invariants of every step -/

/-- Every step keeps the tick counter, the queues and lists, and every saturating counter within their bounds, and the
grid, the geometry and the map fitting together (R2, R9, R11, R42, R44, R86, R104, R112, R113, R119, R160, R170 to R172,
R181, R182, R184). -/
def Obligations.StepsKeepTheBounds : Prop :=
  ∀ s t : State, step s = .next t →
    (s.QueuesBounded → t.QueuesBounded) ∧ (s.CountersBounded → t.CountersBounded) ∧ (s.GridLegal → t.GridLegal)

/-- Every step keeps the channel states, the run state and the check fitting together, the open event lawful (one member
a channel, at most 8, within the window, taken entries only while it is open), and the hit list in order of arrival and
channel with its taken entries in front, all of them before the horizon (R19, R22, R44, R46, R50, R52, R53, R65, R75,
R83, R109, R139, R148, R151, R156). A check in progress began in the run state that still stands. That a hit can still
be in progress in FREEZING, and that offers wait, is log 34. -/
def Obligations.StepsKeepChannelsAndEvents : Prop :=
  ∀ s t : State, step s = .next t → s.ChannelsLegal →
    t.ChannelsLegal ∧ (s.EventsLegal → t.EventsLegal) ∧ (s.ListLegal → t.ListLegal)

/-- The state right after reset, in every field, with the pins and the horizon, and every invariant holds: the values of
the spec's tables and defaults (R16, R43, R63, R84, R110, R130, R150, R163 to R165, R179, R190). The
model's choices in it: HRDY deasserted (log 7), the line rate 00 (log 8), that it stands after the reset of power-on and
the RUN notice gives IDLE as the state before (logs 9 and 10), no frame seen in the present sample period (log 11), 0 as
the previous magnitude of every lane (log 12), and the model's own fields (log 31). -/
def Obligations.ResetStateIsLawful : Prop :=
  (State.reset.QueuesBounded ∧ State.reset.CountersBounded ∧ State.reset.GridLegal ∧ State.reset.ChannelsLegal ∧
    State.reset.EventsLegal ∧ State.reset.ListLegal) ∧
  (State.reset.horizon = none ∧ State.reset.lines = Vector.replicate 4 false ∧ State.reset.holdq = false ∧
    State.reset.prdy = true ∧ ∀ n, State.reset.pulserDrive n = none) ∧
  State.reset =
    { pending := [], inReset := false, tick := 0
      press :=
        { period := 3, acq := 1, zero := 0, span := 100000, band := 100, holdCount := 125, onsetCount := 10
          periodTimer := 0, converting := true, flag := .valid, flagChanged := false
          history := [], pFilt := 0, pMax := 0, pPrev := 0, pRef := 0, stable := 0, phase := .ramp, holdIndex := 0
          spanOpen := false, spanCount := 0, spanMarked := false, onsetRatio := none, awaiting := true }
      chans := Vector.replicate 16
        { cfg := { enable := false, role := .locate, mode := .fixed, thrCode := 40, margin := 6, refOffset := 0
                   pdt := 1000, hdt := 4000, hlt := 5000, maxDur := 500000, pulserLevel := 2 }
          state := .off, thr := 40, pendingThr := none, noiseCode := 0, prevMag := 0, frameSeen := false
          blockPos := 0, blockSum := 0, blockBad := false, settleDue := false
          lane := .good, missingRun := 0, goodRun := 0
          ended := 0, entered := 0, dropped := 0, lone := 0, faults := 0, faultChanged := false
          leftCheck := false }
      hitList := [], dropRange := none, dropFlag := false, offers := []
      assoc := { w := 5000, el := 10000, rl := 400, openEvent := none, lockoutUntil := 0, position := 0, eventNo := 1
                 lastEvent := 0 }
      loc := { geom := none, v := 3000, queue := [], busy := none }
      map :=
        { cells := [], zones := Vector.replicate 16 ⟨0, 0, 0⟩, we := 5, ah := 3, ar := 3, mode := .block
          lineOn := Vector.replicate 4 true, holdOn := false, ack := Vector.replicate 4 false, latch := false }
      chk :=
        { check := none, patterns := Vector.replicate 4 [], baselineHeld := false, baseline := Vector.replicate 256 none
          verdicts := Vector.replicate 16 .unknown, policy := .reportOnly, latest := none }
      ctl :=
        { run := .idle, freeze := none, rw := 2500, rc := 8, d := 0, clipTicks := Vector.replicate 16 none
          numbered := 0, located := 0, runBefore := .idle }
      link :=
        { rate := 0#2, rx := .hunt, timer := 0, ready := []
          framing := 0, overrun := 0, crc := 0, length := 0, truncated := 0, brk := 0 }
      rep :=
        { reply := none, notices := [.run .fullReset .idle .idle 0 1 .plain], data := [], level := .full
          ceiling := .full, high := 192, low := 64, trigger := 8, age := 20, period := 1000
          noticesLost := 0, eventsLost := 0, hitsLost := 0, noticeLostFlag := false
          snapshot := ⟨Vector.replicate 16 ⟨0, 0, 0⟩, 0, 0⟩, timer := 0, tx := none, hrdy := false } }

/-- Only the listed events move the run state, and each only from the states listed for it (R151). -/
def Obligations.RunMovesOnlyAsListed : Prop :=
  ∀ (c : Instr) (s t : State), exec c s = .next t → t.ctl.run ≠ s.ctl.run →
    (s.ctl.run = .armed ∧ t.ctl.run = .freezing ∧
      (c = .stop ∨ c = .timeLimit ∨ (∃ code, c = .conversionComplete code) ∨ ∃ ch v, c = .laneSample ch v)) ∨
    (s.ctl.run = .freezing ∧ t.ctl.run = .frozen ∧ c = .drainComplete) ∨
    ((s.ctl.run = .idle ∨ s.ctl.run = .frozen) ∧ t.ctl.run = .armed ∧ c = .arm) ∨
    (s.ctl.run = .frozen ∧ c = .armResume ∧
      (t.ctl.run = .armed ∨ (t.ctl.run = .freezing ∧ s.tick = 281474976710655))) ∨
    (t.ctl.run = .idle ∧ (c = .resetRun ∨ c = .fullReset ∨ ∃ b, c = .fullResetEnd b))
end

