-- ==== Sys2Proof/Laws/State.lean ====
section
/-!
SUPPORT. What each named update of the state leaves unchanged: one lemma per field and update, all true by rfl, so
that no later proof unfolds a record update.
-/

namespace Sys2Proof.Machine

/-! ### setCh: changes chans alone -/

@[simp] theorem State.setCh_pending (s : State) (c : Chan) (x : Channel) : (s.setCh c x).pending = s.pending := rfl
@[simp] theorem State.setCh_inReset (s : State) (c : Chan) (x : Channel) : (s.setCh c x).inReset = s.inReset := rfl
@[simp] theorem State.setCh_tick (s : State) (c : Chan) (x : Channel) : (s.setCh c x).tick = s.tick := rfl
@[simp] theorem State.setCh_press (s : State) (c : Chan) (x : Channel) : (s.setCh c x).press = s.press := rfl
@[simp] theorem State.setCh_hitList (s : State) (c : Chan) (x : Channel) : (s.setCh c x).hitList = s.hitList := rfl
@[simp] theorem State.setCh_dropRange (s : State) (c : Chan) (x : Channel) : (s.setCh c x).dropRange = s.dropRange := rfl
@[simp] theorem State.setCh_dropFlag (s : State) (c : Chan) (x : Channel) : (s.setCh c x).dropFlag = s.dropFlag := rfl
@[simp] theorem State.setCh_offers (s : State) (c : Chan) (x : Channel) : (s.setCh c x).offers = s.offers := rfl
@[simp] theorem State.setCh_assoc (s : State) (c : Chan) (x : Channel) : (s.setCh c x).assoc = s.assoc := rfl
@[simp] theorem State.setCh_loc (s : State) (c : Chan) (x : Channel) : (s.setCh c x).loc = s.loc := rfl
@[simp] theorem State.setCh_map (s : State) (c : Chan) (x : Channel) : (s.setCh c x).map = s.map := rfl
@[simp] theorem State.setCh_chk (s : State) (c : Chan) (x : Channel) : (s.setCh c x).chk = s.chk := rfl
@[simp] theorem State.setCh_ctl (s : State) (c : Chan) (x : Channel) : (s.setCh c x).ctl = s.ctl := rfl
@[simp] theorem State.setCh_link (s : State) (c : Chan) (x : Channel) : (s.setCh c x).link = s.link := rfl
@[simp] theorem State.setCh_rep (s : State) (c : Chan) (x : Channel) : (s.setCh c x).rep = s.rep := rfl

/-! ### modCh: changes chans alone -/

@[simp] theorem State.modCh_pending (s : State) (c : Chan) (f : Channel → Channel) : (s.modCh c f).pending = s.pending := rfl
@[simp] theorem State.modCh_inReset (s : State) (c : Chan) (f : Channel → Channel) : (s.modCh c f).inReset = s.inReset := rfl
@[simp] theorem State.modCh_tick (s : State) (c : Chan) (f : Channel → Channel) : (s.modCh c f).tick = s.tick := rfl
@[simp] theorem State.modCh_press (s : State) (c : Chan) (f : Channel → Channel) : (s.modCh c f).press = s.press := rfl
@[simp] theorem State.modCh_hitList (s : State) (c : Chan) (f : Channel → Channel) : (s.modCh c f).hitList = s.hitList := rfl
@[simp] theorem State.modCh_dropRange (s : State) (c : Chan) (f : Channel → Channel) : (s.modCh c f).dropRange = s.dropRange := rfl
@[simp] theorem State.modCh_dropFlag (s : State) (c : Chan) (f : Channel → Channel) : (s.modCh c f).dropFlag = s.dropFlag := rfl
@[simp] theorem State.modCh_offers (s : State) (c : Chan) (f : Channel → Channel) : (s.modCh c f).offers = s.offers := rfl
@[simp] theorem State.modCh_assoc (s : State) (c : Chan) (f : Channel → Channel) : (s.modCh c f).assoc = s.assoc := rfl
@[simp] theorem State.modCh_loc (s : State) (c : Chan) (f : Channel → Channel) : (s.modCh c f).loc = s.loc := rfl
@[simp] theorem State.modCh_map (s : State) (c : Chan) (f : Channel → Channel) : (s.modCh c f).map = s.map := rfl
@[simp] theorem State.modCh_chk (s : State) (c : Chan) (f : Channel → Channel) : (s.modCh c f).chk = s.chk := rfl
@[simp] theorem State.modCh_ctl (s : State) (c : Chan) (f : Channel → Channel) : (s.modCh c f).ctl = s.ctl := rfl
@[simp] theorem State.modCh_link (s : State) (c : Chan) (f : Channel → Channel) : (s.modCh c f).link = s.link := rfl
@[simp] theorem State.modCh_rep (s : State) (c : Chan) (f : Channel → Channel) : (s.modCh c f).rep = s.rep := rfl

/-! ### mapCh: changes chans alone -/

@[simp] theorem State.mapCh_pending (s : State) (f : Chan → Channel → Channel) : (s.mapCh f).pending = s.pending := rfl
@[simp] theorem State.mapCh_inReset (s : State) (f : Chan → Channel → Channel) : (s.mapCh f).inReset = s.inReset := rfl
@[simp] theorem State.mapCh_tick (s : State) (f : Chan → Channel → Channel) : (s.mapCh f).tick = s.tick := rfl
@[simp] theorem State.mapCh_press (s : State) (f : Chan → Channel → Channel) : (s.mapCh f).press = s.press := rfl
@[simp] theorem State.mapCh_hitList (s : State) (f : Chan → Channel → Channel) : (s.mapCh f).hitList = s.hitList := rfl
@[simp] theorem State.mapCh_dropRange (s : State) (f : Chan → Channel → Channel) : (s.mapCh f).dropRange = s.dropRange := rfl
@[simp] theorem State.mapCh_dropFlag (s : State) (f : Chan → Channel → Channel) : (s.mapCh f).dropFlag = s.dropFlag := rfl
@[simp] theorem State.mapCh_offers (s : State) (f : Chan → Channel → Channel) : (s.mapCh f).offers = s.offers := rfl
@[simp] theorem State.mapCh_assoc (s : State) (f : Chan → Channel → Channel) : (s.mapCh f).assoc = s.assoc := rfl
@[simp] theorem State.mapCh_loc (s : State) (f : Chan → Channel → Channel) : (s.mapCh f).loc = s.loc := rfl
@[simp] theorem State.mapCh_map (s : State) (f : Chan → Channel → Channel) : (s.mapCh f).map = s.map := rfl
@[simp] theorem State.mapCh_chk (s : State) (f : Chan → Channel → Channel) : (s.mapCh f).chk = s.chk := rfl
@[simp] theorem State.mapCh_ctl (s : State) (f : Chan → Channel → Channel) : (s.mapCh f).ctl = s.ctl := rfl
@[simp] theorem State.mapCh_link (s : State) (f : Chan → Channel → Channel) : (s.mapCh f).link = s.link := rfl
@[simp] theorem State.mapCh_rep (s : State) (f : Chan → Channel → Channel) : (s.mapCh f).rep = s.rep := rfl

/-! ### notify: changes rep alone -/

@[simp] theorem State.notify_pending (s : State) (n : Notice) : (s.notify n).pending = s.pending := rfl
@[simp] theorem State.notify_inReset (s : State) (n : Notice) : (s.notify n).inReset = s.inReset := rfl
@[simp] theorem State.notify_tick (s : State) (n : Notice) : (s.notify n).tick = s.tick := rfl
@[simp] theorem State.notify_press (s : State) (n : Notice) : (s.notify n).press = s.press := rfl
@[simp] theorem State.notify_chans (s : State) (n : Notice) : (s.notify n).chans = s.chans := rfl
@[simp] theorem State.notify_hitList (s : State) (n : Notice) : (s.notify n).hitList = s.hitList := rfl
@[simp] theorem State.notify_dropRange (s : State) (n : Notice) : (s.notify n).dropRange = s.dropRange := rfl
@[simp] theorem State.notify_dropFlag (s : State) (n : Notice) : (s.notify n).dropFlag = s.dropFlag := rfl
@[simp] theorem State.notify_offers (s : State) (n : Notice) : (s.notify n).offers = s.offers := rfl
@[simp] theorem State.notify_assoc (s : State) (n : Notice) : (s.notify n).assoc = s.assoc := rfl
@[simp] theorem State.notify_loc (s : State) (n : Notice) : (s.notify n).loc = s.loc := rfl
@[simp] theorem State.notify_map (s : State) (n : Notice) : (s.notify n).map = s.map := rfl
@[simp] theorem State.notify_chk (s : State) (n : Notice) : (s.notify n).chk = s.chk := rfl
@[simp] theorem State.notify_ctl (s : State) (n : Notice) : (s.notify n).ctl = s.ctl := rfl
@[simp] theorem State.notify_link (s : State) (n : Notice) : (s.notify n).link = s.link := rfl

/-! ### report: changes rep alone -/

@[simp] theorem State.report_pending (s : State) (r : DataRec) : (s.report r).pending = s.pending := rfl
@[simp] theorem State.report_inReset (s : State) (r : DataRec) : (s.report r).inReset = s.inReset := rfl
@[simp] theorem State.report_tick (s : State) (r : DataRec) : (s.report r).tick = s.tick := rfl
@[simp] theorem State.report_press (s : State) (r : DataRec) : (s.report r).press = s.press := rfl
@[simp] theorem State.report_chans (s : State) (r : DataRec) : (s.report r).chans = s.chans := rfl
@[simp] theorem State.report_hitList (s : State) (r : DataRec) : (s.report r).hitList = s.hitList := rfl
@[simp] theorem State.report_dropRange (s : State) (r : DataRec) : (s.report r).dropRange = s.dropRange := rfl
@[simp] theorem State.report_dropFlag (s : State) (r : DataRec) : (s.report r).dropFlag = s.dropFlag := rfl
@[simp] theorem State.report_offers (s : State) (r : DataRec) : (s.report r).offers = s.offers := rfl
@[simp] theorem State.report_assoc (s : State) (r : DataRec) : (s.report r).assoc = s.assoc := rfl
@[simp] theorem State.report_loc (s : State) (r : DataRec) : (s.report r).loc = s.loc := rfl
@[simp] theorem State.report_map (s : State) (r : DataRec) : (s.report r).map = s.map := rfl
@[simp] theorem State.report_chk (s : State) (r : DataRec) : (s.report r).chk = s.chk := rfl
@[simp] theorem State.report_ctl (s : State) (r : DataRec) : (s.report r).ctl = s.ctl := rfl
@[simp] theorem State.report_link (s : State) (r : DataRec) : (s.report r).link = s.link := rfl

/-! ### answer: changes rep alone -/

@[simp] theorem State.answer_pending (s : State) (f : Frame) (r : Result) (d : List Byte) : (s.answer f r d).pending = s.pending := rfl
@[simp] theorem State.answer_inReset (s : State) (f : Frame) (r : Result) (d : List Byte) : (s.answer f r d).inReset = s.inReset := rfl
@[simp] theorem State.answer_tick (s : State) (f : Frame) (r : Result) (d : List Byte) : (s.answer f r d).tick = s.tick := rfl
@[simp] theorem State.answer_press (s : State) (f : Frame) (r : Result) (d : List Byte) : (s.answer f r d).press = s.press := rfl
@[simp] theorem State.answer_chans (s : State) (f : Frame) (r : Result) (d : List Byte) : (s.answer f r d).chans = s.chans := rfl
@[simp] theorem State.answer_hitList (s : State) (f : Frame) (r : Result) (d : List Byte) : (s.answer f r d).hitList = s.hitList := rfl
@[simp] theorem State.answer_dropRange (s : State) (f : Frame) (r : Result) (d : List Byte) : (s.answer f r d).dropRange = s.dropRange := rfl
@[simp] theorem State.answer_dropFlag (s : State) (f : Frame) (r : Result) (d : List Byte) : (s.answer f r d).dropFlag = s.dropFlag := rfl
@[simp] theorem State.answer_offers (s : State) (f : Frame) (r : Result) (d : List Byte) : (s.answer f r d).offers = s.offers := rfl
@[simp] theorem State.answer_assoc (s : State) (f : Frame) (r : Result) (d : List Byte) : (s.answer f r d).assoc = s.assoc := rfl
@[simp] theorem State.answer_loc (s : State) (f : Frame) (r : Result) (d : List Byte) : (s.answer f r d).loc = s.loc := rfl
@[simp] theorem State.answer_map (s : State) (f : Frame) (r : Result) (d : List Byte) : (s.answer f r d).map = s.map := rfl
@[simp] theorem State.answer_chk (s : State) (f : Frame) (r : Result) (d : List Byte) : (s.answer f r d).chk = s.chk := rfl
@[simp] theorem State.answer_ctl (s : State) (f : Frame) (r : Result) (d : List Byte) : (s.answer f r d).ctl = s.ctl := rfl
@[simp] theorem State.answer_link (s : State) (f : Frame) (r : Result) (d : List Byte) : (s.answer f r d).link = s.link := rfl

/-! ### choose: changes rep alone -/

@[simp] theorem State.choose_pending (s : State) : (s.choose).pending = s.pending := rfl
@[simp] theorem State.choose_inReset (s : State) : (s.choose).inReset = s.inReset := rfl
@[simp] theorem State.choose_tick (s : State) : (s.choose).tick = s.tick := rfl
@[simp] theorem State.choose_press (s : State) : (s.choose).press = s.press := rfl
@[simp] theorem State.choose_chans (s : State) : (s.choose).chans = s.chans := rfl
@[simp] theorem State.choose_hitList (s : State) : (s.choose).hitList = s.hitList := rfl
@[simp] theorem State.choose_dropRange (s : State) : (s.choose).dropRange = s.dropRange := rfl
@[simp] theorem State.choose_dropFlag (s : State) : (s.choose).dropFlag = s.dropFlag := rfl
@[simp] theorem State.choose_offers (s : State) : (s.choose).offers = s.offers := rfl
@[simp] theorem State.choose_assoc (s : State) : (s.choose).assoc = s.assoc := rfl
@[simp] theorem State.choose_loc (s : State) : (s.choose).loc = s.loc := rfl
@[simp] theorem State.choose_map (s : State) : (s.choose).map = s.map := rfl
@[simp] theorem State.choose_chk (s : State) : (s.choose).chk = s.chk := rfl
@[simp] theorem State.choose_ctl (s : State) : (s.choose).ctl = s.ctl := rfl
@[simp] theorem State.choose_link (s : State) : (s.choose).link = s.link := rfl

/-! ### setHrdy: changes rep alone -/

@[simp] theorem State.setHrdy_pending (s : State) (b : Bool) : (s.setHrdy b).pending = s.pending := rfl
@[simp] theorem State.setHrdy_inReset (s : State) (b : Bool) : (s.setHrdy b).inReset = s.inReset := rfl
@[simp] theorem State.setHrdy_tick (s : State) (b : Bool) : (s.setHrdy b).tick = s.tick := rfl
@[simp] theorem State.setHrdy_press (s : State) (b : Bool) : (s.setHrdy b).press = s.press := rfl
@[simp] theorem State.setHrdy_chans (s : State) (b : Bool) : (s.setHrdy b).chans = s.chans := rfl
@[simp] theorem State.setHrdy_hitList (s : State) (b : Bool) : (s.setHrdy b).hitList = s.hitList := rfl
@[simp] theorem State.setHrdy_dropRange (s : State) (b : Bool) : (s.setHrdy b).dropRange = s.dropRange := rfl
@[simp] theorem State.setHrdy_dropFlag (s : State) (b : Bool) : (s.setHrdy b).dropFlag = s.dropFlag := rfl
@[simp] theorem State.setHrdy_offers (s : State) (b : Bool) : (s.setHrdy b).offers = s.offers := rfl
@[simp] theorem State.setHrdy_assoc (s : State) (b : Bool) : (s.setHrdy b).assoc = s.assoc := rfl
@[simp] theorem State.setHrdy_loc (s : State) (b : Bool) : (s.setHrdy b).loc = s.loc := rfl
@[simp] theorem State.setHrdy_map (s : State) (b : Bool) : (s.setHrdy b).map = s.map := rfl
@[simp] theorem State.setHrdy_chk (s : State) (b : Bool) : (s.setHrdy b).chk = s.chk := rfl
@[simp] theorem State.setHrdy_ctl (s : State) (b : Bool) : (s.setHrdy b).ctl = s.ctl := rfl
@[simp] theorem State.setHrdy_link (s : State) (b : Bool) : (s.setHrdy b).link = s.link := rfl

/-! ### freeSlot: changes link alone -/

@[simp] theorem State.freeSlot_pending (s : State) : (s.freeSlot).pending = s.pending := rfl
@[simp] theorem State.freeSlot_inReset (s : State) : (s.freeSlot).inReset = s.inReset := rfl
@[simp] theorem State.freeSlot_tick (s : State) : (s.freeSlot).tick = s.tick := rfl
@[simp] theorem State.freeSlot_press (s : State) : (s.freeSlot).press = s.press := rfl
@[simp] theorem State.freeSlot_chans (s : State) : (s.freeSlot).chans = s.chans := rfl
@[simp] theorem State.freeSlot_hitList (s : State) : (s.freeSlot).hitList = s.hitList := rfl
@[simp] theorem State.freeSlot_dropRange (s : State) : (s.freeSlot).dropRange = s.dropRange := rfl
@[simp] theorem State.freeSlot_dropFlag (s : State) : (s.freeSlot).dropFlag = s.dropFlag := rfl
@[simp] theorem State.freeSlot_offers (s : State) : (s.freeSlot).offers = s.offers := rfl
@[simp] theorem State.freeSlot_assoc (s : State) : (s.freeSlot).assoc = s.assoc := rfl
@[simp] theorem State.freeSlot_loc (s : State) : (s.freeSlot).loc = s.loc := rfl
@[simp] theorem State.freeSlot_map (s : State) : (s.freeSlot).map = s.map := rfl
@[simp] theorem State.freeSlot_chk (s : State) : (s.freeSlot).chk = s.chk := rfl
@[simp] theorem State.freeSlot_ctl (s : State) : (s.freeSlot).ctl = s.ctl := rfl
@[simp] theorem State.freeSlot_rep (s : State) : (s.freeSlot).rep = s.rep := rfl

/-! ### setRun: changes ctl alone -/

@[simp] theorem State.setRun_pending (s : State) (r : RunState) : (s.setRun r).pending = s.pending := rfl
@[simp] theorem State.setRun_inReset (s : State) (r : RunState) : (s.setRun r).inReset = s.inReset := rfl
@[simp] theorem State.setRun_tick (s : State) (r : RunState) : (s.setRun r).tick = s.tick := rfl
@[simp] theorem State.setRun_press (s : State) (r : RunState) : (s.setRun r).press = s.press := rfl
@[simp] theorem State.setRun_chans (s : State) (r : RunState) : (s.setRun r).chans = s.chans := rfl
@[simp] theorem State.setRun_hitList (s : State) (r : RunState) : (s.setRun r).hitList = s.hitList := rfl
@[simp] theorem State.setRun_dropRange (s : State) (r : RunState) : (s.setRun r).dropRange = s.dropRange := rfl
@[simp] theorem State.setRun_dropFlag (s : State) (r : RunState) : (s.setRun r).dropFlag = s.dropFlag := rfl
@[simp] theorem State.setRun_offers (s : State) (r : RunState) : (s.setRun r).offers = s.offers := rfl
@[simp] theorem State.setRun_assoc (s : State) (r : RunState) : (s.setRun r).assoc = s.assoc := rfl
@[simp] theorem State.setRun_loc (s : State) (r : RunState) : (s.setRun r).loc = s.loc := rfl
@[simp] theorem State.setRun_map (s : State) (r : RunState) : (s.setRun r).map = s.map := rfl
@[simp] theorem State.setRun_chk (s : State) (r : RunState) : (s.setRun r).chk = s.chk := rfl
@[simp] theorem State.setRun_link (s : State) (r : RunState) : (s.setRun r).link = s.link := rfl
@[simp] theorem State.setRun_rep (s : State) (r : RunState) : (s.setRun r).rep = s.rep := rfl

/-! ### tellRun: changes rep alone -/

@[simp] theorem State.tellRun_pending (s : State) (k : RunCause) (b : RunState) (d : RunDetail) : (s.tellRun k b d).pending = s.pending := rfl
@[simp] theorem State.tellRun_inReset (s : State) (k : RunCause) (b : RunState) (d : RunDetail) : (s.tellRun k b d).inReset = s.inReset := rfl
@[simp] theorem State.tellRun_tick (s : State) (k : RunCause) (b : RunState) (d : RunDetail) : (s.tellRun k b d).tick = s.tick := rfl
@[simp] theorem State.tellRun_press (s : State) (k : RunCause) (b : RunState) (d : RunDetail) : (s.tellRun k b d).press = s.press := rfl
@[simp] theorem State.tellRun_chans (s : State) (k : RunCause) (b : RunState) (d : RunDetail) : (s.tellRun k b d).chans = s.chans := rfl
@[simp] theorem State.tellRun_hitList (s : State) (k : RunCause) (b : RunState) (d : RunDetail) : (s.tellRun k b d).hitList = s.hitList := rfl
@[simp] theorem State.tellRun_dropRange (s : State) (k : RunCause) (b : RunState) (d : RunDetail) : (s.tellRun k b d).dropRange = s.dropRange := rfl
@[simp] theorem State.tellRun_dropFlag (s : State) (k : RunCause) (b : RunState) (d : RunDetail) : (s.tellRun k b d).dropFlag = s.dropFlag := rfl
@[simp] theorem State.tellRun_offers (s : State) (k : RunCause) (b : RunState) (d : RunDetail) : (s.tellRun k b d).offers = s.offers := rfl
@[simp] theorem State.tellRun_assoc (s : State) (k : RunCause) (b : RunState) (d : RunDetail) : (s.tellRun k b d).assoc = s.assoc := rfl
@[simp] theorem State.tellRun_loc (s : State) (k : RunCause) (b : RunState) (d : RunDetail) : (s.tellRun k b d).loc = s.loc := rfl
@[simp] theorem State.tellRun_map (s : State) (k : RunCause) (b : RunState) (d : RunDetail) : (s.tellRun k b d).map = s.map := rfl
@[simp] theorem State.tellRun_chk (s : State) (k : RunCause) (b : RunState) (d : RunDetail) : (s.tellRun k b d).chk = s.chk := rfl
@[simp] theorem State.tellRun_ctl (s : State) (k : RunCause) (b : RunState) (d : RunDetail) : (s.tellRun k b d).ctl = s.ctl := rfl
@[simp] theorem State.tellRun_link (s : State) (k : RunCause) (b : RunState) (d : RunDetail) : (s.tellRun k b d).link = s.link := rfl

/-! ### setFreeze: changes ctl alone -/

@[simp] theorem State.setFreeze_pending (s : State) (w : FreezeReason) : (s.setFreeze w).pending = s.pending := rfl
@[simp] theorem State.setFreeze_inReset (s : State) (w : FreezeReason) : (s.setFreeze w).inReset = s.inReset := rfl
@[simp] theorem State.setFreeze_tick (s : State) (w : FreezeReason) : (s.setFreeze w).tick = s.tick := rfl
@[simp] theorem State.setFreeze_press (s : State) (w : FreezeReason) : (s.setFreeze w).press = s.press := rfl
@[simp] theorem State.setFreeze_chans (s : State) (w : FreezeReason) : (s.setFreeze w).chans = s.chans := rfl
@[simp] theorem State.setFreeze_hitList (s : State) (w : FreezeReason) : (s.setFreeze w).hitList = s.hitList := rfl
@[simp] theorem State.setFreeze_dropRange (s : State) (w : FreezeReason) : (s.setFreeze w).dropRange = s.dropRange := rfl
@[simp] theorem State.setFreeze_dropFlag (s : State) (w : FreezeReason) : (s.setFreeze w).dropFlag = s.dropFlag := rfl
@[simp] theorem State.setFreeze_offers (s : State) (w : FreezeReason) : (s.setFreeze w).offers = s.offers := rfl
@[simp] theorem State.setFreeze_assoc (s : State) (w : FreezeReason) : (s.setFreeze w).assoc = s.assoc := rfl
@[simp] theorem State.setFreeze_loc (s : State) (w : FreezeReason) : (s.setFreeze w).loc = s.loc := rfl
@[simp] theorem State.setFreeze_map (s : State) (w : FreezeReason) : (s.setFreeze w).map = s.map := rfl
@[simp] theorem State.setFreeze_chk (s : State) (w : FreezeReason) : (s.setFreeze w).chk = s.chk := rfl
@[simp] theorem State.setFreeze_link (s : State) (w : FreezeReason) : (s.setFreeze w).link = s.link := rfl
@[simp] theorem State.setFreeze_rep (s : State) (w : FreezeReason) : (s.setFreeze w).rep = s.rep := rfl

/-! ### recordClip: changes ctl alone -/

@[simp] theorem State.recordClip_pending (s : State) (c : Chan) : (s.recordClip c).pending = s.pending := rfl
@[simp] theorem State.recordClip_inReset (s : State) (c : Chan) : (s.recordClip c).inReset = s.inReset := rfl
@[simp] theorem State.recordClip_tick (s : State) (c : Chan) : (s.recordClip c).tick = s.tick := rfl
@[simp] theorem State.recordClip_press (s : State) (c : Chan) : (s.recordClip c).press = s.press := rfl
@[simp] theorem State.recordClip_chans (s : State) (c : Chan) : (s.recordClip c).chans = s.chans := rfl
@[simp] theorem State.recordClip_hitList (s : State) (c : Chan) : (s.recordClip c).hitList = s.hitList := rfl
@[simp] theorem State.recordClip_dropRange (s : State) (c : Chan) : (s.recordClip c).dropRange = s.dropRange := rfl
@[simp] theorem State.recordClip_dropFlag (s : State) (c : Chan) : (s.recordClip c).dropFlag = s.dropFlag := rfl
@[simp] theorem State.recordClip_offers (s : State) (c : Chan) : (s.recordClip c).offers = s.offers := rfl
@[simp] theorem State.recordClip_assoc (s : State) (c : Chan) : (s.recordClip c).assoc = s.assoc := rfl
@[simp] theorem State.recordClip_loc (s : State) (c : Chan) : (s.recordClip c).loc = s.loc := rfl
@[simp] theorem State.recordClip_map (s : State) (c : Chan) : (s.recordClip c).map = s.map := rfl
@[simp] theorem State.recordClip_chk (s : State) (c : Chan) : (s.recordClip c).chk = s.chk := rfl
@[simp] theorem State.recordClip_link (s : State) (c : Chan) : (s.recordClip c).link = s.link := rfl
@[simp] theorem State.recordClip_rep (s : State) (c : Chan) : (s.recordClip c).rep = s.rep := rfl

/-! ### setGeom: changes loc alone -/

@[simp] theorem State.setGeom_pending (s : State) (g : Geometry) : (s.setGeom g).pending = s.pending := rfl
@[simp] theorem State.setGeom_inReset (s : State) (g : Geometry) : (s.setGeom g).inReset = s.inReset := rfl
@[simp] theorem State.setGeom_tick (s : State) (g : Geometry) : (s.setGeom g).tick = s.tick := rfl
@[simp] theorem State.setGeom_press (s : State) (g : Geometry) : (s.setGeom g).press = s.press := rfl
@[simp] theorem State.setGeom_chans (s : State) (g : Geometry) : (s.setGeom g).chans = s.chans := rfl
@[simp] theorem State.setGeom_hitList (s : State) (g : Geometry) : (s.setGeom g).hitList = s.hitList := rfl
@[simp] theorem State.setGeom_dropRange (s : State) (g : Geometry) : (s.setGeom g).dropRange = s.dropRange := rfl
@[simp] theorem State.setGeom_dropFlag (s : State) (g : Geometry) : (s.setGeom g).dropFlag = s.dropFlag := rfl
@[simp] theorem State.setGeom_offers (s : State) (g : Geometry) : (s.setGeom g).offers = s.offers := rfl
@[simp] theorem State.setGeom_assoc (s : State) (g : Geometry) : (s.setGeom g).assoc = s.assoc := rfl
@[simp] theorem State.setGeom_map (s : State) (g : Geometry) : (s.setGeom g).map = s.map := rfl
@[simp] theorem State.setGeom_chk (s : State) (g : Geometry) : (s.setGeom g).chk = s.chk := rfl
@[simp] theorem State.setGeom_ctl (s : State) (g : Geometry) : (s.setGeom g).ctl = s.ctl := rfl
@[simp] theorem State.setGeom_link (s : State) (g : Geometry) : (s.setGeom g).link = s.link := rfl
@[simp] theorem State.setGeom_rep (s : State) (g : Geometry) : (s.setGeom g).rep = s.rep := rfl

/-! ### moveTo: changes assoc, dropRange alone -/

@[simp] theorem State.moveTo_pending (s : State) (t : Nat) : (s.moveTo t).pending = s.pending := rfl
@[simp] theorem State.moveTo_inReset (s : State) (t : Nat) : (s.moveTo t).inReset = s.inReset := rfl
@[simp] theorem State.moveTo_tick (s : State) (t : Nat) : (s.moveTo t).tick = s.tick := rfl
@[simp] theorem State.moveTo_press (s : State) (t : Nat) : (s.moveTo t).press = s.press := rfl
@[simp] theorem State.moveTo_chans (s : State) (t : Nat) : (s.moveTo t).chans = s.chans := rfl
@[simp] theorem State.moveTo_hitList (s : State) (t : Nat) : (s.moveTo t).hitList = s.hitList := rfl
@[simp] theorem State.moveTo_dropFlag (s : State) (t : Nat) : (s.moveTo t).dropFlag = s.dropFlag := rfl
@[simp] theorem State.moveTo_offers (s : State) (t : Nat) : (s.moveTo t).offers = s.offers := rfl
@[simp] theorem State.moveTo_loc (s : State) (t : Nat) : (s.moveTo t).loc = s.loc := rfl
@[simp] theorem State.moveTo_map (s : State) (t : Nat) : (s.moveTo t).map = s.map := rfl
@[simp] theorem State.moveTo_chk (s : State) (t : Nat) : (s.moveTo t).chk = s.chk := rfl
@[simp] theorem State.moveTo_ctl (s : State) (t : Nat) : (s.moveTo t).ctl = s.ctl := rfl
@[simp] theorem State.moveTo_link (s : State) (t : Nat) : (s.moveTo t).link = s.link := rfl
@[simp] theorem State.moveTo_rep (s : State) (t : Nat) : (s.moveTo t).rep = s.rep := rfl

/-! ### clearFlags: changes chans, press, dropFlag, rep alone -/

@[simp] theorem State.clearFlags_pending (s : State) : (s.clearFlags).pending = s.pending := rfl
@[simp] theorem State.clearFlags_inReset (s : State) : (s.clearFlags).inReset = s.inReset := rfl
@[simp] theorem State.clearFlags_tick (s : State) : (s.clearFlags).tick = s.tick := rfl
@[simp] theorem State.clearFlags_hitList (s : State) : (s.clearFlags).hitList = s.hitList := rfl
@[simp] theorem State.clearFlags_dropRange (s : State) : (s.clearFlags).dropRange = s.dropRange := rfl
@[simp] theorem State.clearFlags_offers (s : State) : (s.clearFlags).offers = s.offers := rfl
@[simp] theorem State.clearFlags_assoc (s : State) : (s.clearFlags).assoc = s.assoc := rfl
@[simp] theorem State.clearFlags_loc (s : State) : (s.clearFlags).loc = s.loc := rfl
@[simp] theorem State.clearFlags_map (s : State) : (s.clearFlags).map = s.map := rfl
@[simp] theorem State.clearFlags_chk (s : State) : (s.clearFlags).chk = s.chk := rfl
@[simp] theorem State.clearFlags_ctl (s : State) : (s.clearFlags).ctl = s.ctl := rfl
@[simp] theorem State.clearFlags_link (s : State) : (s.clearFlags).link = s.link := rfl

/-! ### numberEvent: changes assoc, ctl alone -/

@[simp] theorem State.numberEvent_pending (s : State) (o : OpenEvent) : (s.numberEvent o).pending = s.pending := rfl
@[simp] theorem State.numberEvent_inReset (s : State) (o : OpenEvent) : (s.numberEvent o).inReset = s.inReset := rfl
@[simp] theorem State.numberEvent_tick (s : State) (o : OpenEvent) : (s.numberEvent o).tick = s.tick := rfl
@[simp] theorem State.numberEvent_press (s : State) (o : OpenEvent) : (s.numberEvent o).press = s.press := rfl
@[simp] theorem State.numberEvent_chans (s : State) (o : OpenEvent) : (s.numberEvent o).chans = s.chans := rfl
@[simp] theorem State.numberEvent_hitList (s : State) (o : OpenEvent) : (s.numberEvent o).hitList = s.hitList := rfl
@[simp] theorem State.numberEvent_dropRange (s : State) (o : OpenEvent) : (s.numberEvent o).dropRange = s.dropRange := rfl
@[simp] theorem State.numberEvent_dropFlag (s : State) (o : OpenEvent) : (s.numberEvent o).dropFlag = s.dropFlag := rfl
@[simp] theorem State.numberEvent_offers (s : State) (o : OpenEvent) : (s.numberEvent o).offers = s.offers := rfl
@[simp] theorem State.numberEvent_loc (s : State) (o : OpenEvent) : (s.numberEvent o).loc = s.loc := rfl
@[simp] theorem State.numberEvent_map (s : State) (o : OpenEvent) : (s.numberEvent o).map = s.map := rfl
@[simp] theorem State.numberEvent_chk (s : State) (o : OpenEvent) : (s.numberEvent o).chk = s.chk := rfl
@[simp] theorem State.numberEvent_link (s : State) (o : OpenEvent) : (s.numberEvent o).link = s.link := rfl
@[simp] theorem State.numberEvent_rep (s : State) (o : OpenEvent) : (s.numberEvent o).rep = s.rep := rfl

/-! ### freeLocator: changes loc, ctl alone -/

@[simp] theorem State.freeLocator_pending (s : State) (b : Locating) : (s.freeLocator b).pending = s.pending := rfl
@[simp] theorem State.freeLocator_inReset (s : State) (b : Locating) : (s.freeLocator b).inReset = s.inReset := rfl
@[simp] theorem State.freeLocator_tick (s : State) (b : Locating) : (s.freeLocator b).tick = s.tick := rfl
@[simp] theorem State.freeLocator_press (s : State) (b : Locating) : (s.freeLocator b).press = s.press := rfl
@[simp] theorem State.freeLocator_chans (s : State) (b : Locating) : (s.freeLocator b).chans = s.chans := rfl
@[simp] theorem State.freeLocator_hitList (s : State) (b : Locating) : (s.freeLocator b).hitList = s.hitList := rfl
@[simp] theorem State.freeLocator_dropRange (s : State) (b : Locating) : (s.freeLocator b).dropRange = s.dropRange := rfl
@[simp] theorem State.freeLocator_dropFlag (s : State) (b : Locating) : (s.freeLocator b).dropFlag = s.dropFlag := rfl
@[simp] theorem State.freeLocator_offers (s : State) (b : Locating) : (s.freeLocator b).offers = s.offers := rfl
@[simp] theorem State.freeLocator_assoc (s : State) (b : Locating) : (s.freeLocator b).assoc = s.assoc := rfl
@[simp] theorem State.freeLocator_map (s : State) (b : Locating) : (s.freeLocator b).map = s.map := rfl
@[simp] theorem State.freeLocator_chk (s : State) (b : Locating) : (s.freeLocator b).chk = s.chk := rfl
@[simp] theorem State.freeLocator_link (s : State) (b : Locating) : (s.freeLocator b).link = s.link := rfl
@[simp] theorem State.freeLocator_rep (s : State) (b : Locating) : (s.freeLocator b).rep = s.rep := rfl

/-! ### linkError: changes link, rep alone -/

@[simp] theorem State.linkError_pending (s : State) (e : RxError) : (s.linkError e).pending = s.pending := rfl
@[simp] theorem State.linkError_inReset (s : State) (e : RxError) : (s.linkError e).inReset = s.inReset := rfl
@[simp] theorem State.linkError_tick (s : State) (e : RxError) : (s.linkError e).tick = s.tick := rfl
@[simp] theorem State.linkError_press (s : State) (e : RxError) : (s.linkError e).press = s.press := rfl
@[simp] theorem State.linkError_chans (s : State) (e : RxError) : (s.linkError e).chans = s.chans := rfl
@[simp] theorem State.linkError_hitList (s : State) (e : RxError) : (s.linkError e).hitList = s.hitList := rfl
@[simp] theorem State.linkError_dropRange (s : State) (e : RxError) : (s.linkError e).dropRange = s.dropRange := rfl
@[simp] theorem State.linkError_dropFlag (s : State) (e : RxError) : (s.linkError e).dropFlag = s.dropFlag := rfl
@[simp] theorem State.linkError_offers (s : State) (e : RxError) : (s.linkError e).offers = s.offers := rfl
@[simp] theorem State.linkError_assoc (s : State) (e : RxError) : (s.linkError e).assoc = s.assoc := rfl
@[simp] theorem State.linkError_loc (s : State) (e : RxError) : (s.linkError e).loc = s.loc := rfl
@[simp] theorem State.linkError_map (s : State) (e : RxError) : (s.linkError e).map = s.map := rfl
@[simp] theorem State.linkError_chk (s : State) (e : RxError) : (s.linkError e).chk = s.chk := rfl
@[simp] theorem State.linkError_ctl (s : State) (e : RxError) : (s.linkError e).ctl = s.ctl := rfl

/-! ### enterBreak: changes link, rep alone -/

@[simp] theorem State.enterBreak_pending (s : State) : (s.enterBreak).pending = s.pending := rfl
@[simp] theorem State.enterBreak_inReset (s : State) : (s.enterBreak).inReset = s.inReset := rfl
@[simp] theorem State.enterBreak_tick (s : State) : (s.enterBreak).tick = s.tick := rfl
@[simp] theorem State.enterBreak_press (s : State) : (s.enterBreak).press = s.press := rfl
@[simp] theorem State.enterBreak_chans (s : State) : (s.enterBreak).chans = s.chans := rfl
@[simp] theorem State.enterBreak_hitList (s : State) : (s.enterBreak).hitList = s.hitList := rfl
@[simp] theorem State.enterBreak_dropRange (s : State) : (s.enterBreak).dropRange = s.dropRange := rfl
@[simp] theorem State.enterBreak_dropFlag (s : State) : (s.enterBreak).dropFlag = s.dropFlag := rfl
@[simp] theorem State.enterBreak_offers (s : State) : (s.enterBreak).offers = s.offers := rfl
@[simp] theorem State.enterBreak_assoc (s : State) : (s.enterBreak).assoc = s.assoc := rfl
@[simp] theorem State.enterBreak_loc (s : State) : (s.enterBreak).loc = s.loc := rfl
@[simp] theorem State.enterBreak_map (s : State) : (s.enterBreak).map = s.map := rfl
@[simp] theorem State.enterBreak_chk (s : State) : (s.enterBreak).chk = s.chk := rfl
@[simp] theorem State.enterBreak_ctl (s : State) : (s.enterBreak).ctl = s.ctl := rfl

/-! ### lone: changes chans, rep alone -/

@[simp] theorem State.lone_pending (s : State) (r : HitRec) (w : LoneReason) : (s.lone r w).pending = s.pending := rfl
@[simp] theorem State.lone_inReset (s : State) (r : HitRec) (w : LoneReason) : (s.lone r w).inReset = s.inReset := rfl
@[simp] theorem State.lone_tick (s : State) (r : HitRec) (w : LoneReason) : (s.lone r w).tick = s.tick := rfl
@[simp] theorem State.lone_press (s : State) (r : HitRec) (w : LoneReason) : (s.lone r w).press = s.press := rfl
@[simp] theorem State.lone_hitList (s : State) (r : HitRec) (w : LoneReason) : (s.lone r w).hitList = s.hitList := rfl
@[simp] theorem State.lone_dropRange (s : State) (r : HitRec) (w : LoneReason) : (s.lone r w).dropRange = s.dropRange := rfl
@[simp] theorem State.lone_dropFlag (s : State) (r : HitRec) (w : LoneReason) : (s.lone r w).dropFlag = s.dropFlag := rfl
@[simp] theorem State.lone_offers (s : State) (r : HitRec) (w : LoneReason) : (s.lone r w).offers = s.offers := rfl
@[simp] theorem State.lone_assoc (s : State) (r : HitRec) (w : LoneReason) : (s.lone r w).assoc = s.assoc := rfl
@[simp] theorem State.lone_loc (s : State) (r : HitRec) (w : LoneReason) : (s.lone r w).loc = s.loc := rfl
@[simp] theorem State.lone_map (s : State) (r : HitRec) (w : LoneReason) : (s.lone r w).map = s.map := rfl
@[simp] theorem State.lone_chk (s : State) (r : HitRec) (w : LoneReason) : (s.lone r w).chk = s.chk := rfl
@[simp] theorem State.lone_ctl (s : State) (r : HitRec) (w : LoneReason) : (s.lone r w).ctl = s.ctl := rfl
@[simp] theorem State.lone_link (s : State) (r : HitRec) (w : LoneReason) : (s.lone r w).link = s.link := rfl

/-! ### releaseEntry: changes chans, rep, hitList alone -/

@[simp] theorem State.releaseEntry_pending (s : State) (r : HitRec) (w : LoneReason) : (s.releaseEntry r w).pending = s.pending := rfl
@[simp] theorem State.releaseEntry_inReset (s : State) (r : HitRec) (w : LoneReason) : (s.releaseEntry r w).inReset = s.inReset := rfl
@[simp] theorem State.releaseEntry_tick (s : State) (r : HitRec) (w : LoneReason) : (s.releaseEntry r w).tick = s.tick := rfl
@[simp] theorem State.releaseEntry_press (s : State) (r : HitRec) (w : LoneReason) : (s.releaseEntry r w).press = s.press := rfl
@[simp] theorem State.releaseEntry_dropRange (s : State) (r : HitRec) (w : LoneReason) : (s.releaseEntry r w).dropRange = s.dropRange := rfl
@[simp] theorem State.releaseEntry_dropFlag (s : State) (r : HitRec) (w : LoneReason) : (s.releaseEntry r w).dropFlag = s.dropFlag := rfl
@[simp] theorem State.releaseEntry_offers (s : State) (r : HitRec) (w : LoneReason) : (s.releaseEntry r w).offers = s.offers := rfl
@[simp] theorem State.releaseEntry_assoc (s : State) (r : HitRec) (w : LoneReason) : (s.releaseEntry r w).assoc = s.assoc := rfl
@[simp] theorem State.releaseEntry_loc (s : State) (r : HitRec) (w : LoneReason) : (s.releaseEntry r w).loc = s.loc := rfl
@[simp] theorem State.releaseEntry_map (s : State) (r : HitRec) (w : LoneReason) : (s.releaseEntry r w).map = s.map := rfl
@[simp] theorem State.releaseEntry_chk (s : State) (r : HitRec) (w : LoneReason) : (s.releaseEntry r w).chk = s.chk := rfl
@[simp] theorem State.releaseEntry_ctl (s : State) (r : HitRec) (w : LoneReason) : (s.releaseEntry r w).ctl = s.ctl := rfl
@[simp] theorem State.releaseEntry_link (s : State) (r : HitRec) (w : LoneReason) : (s.releaseEntry r w).link = s.link := rfl

/-! ### enterFault: changes chans, rep alone -/

@[simp] theorem State.enterFault_pending (s : State) (c : Chan) : (State.enterFault c s).pending = s.pending := rfl
@[simp] theorem State.enterFault_inReset (s : State) (c : Chan) : (State.enterFault c s).inReset = s.inReset := rfl
@[simp] theorem State.enterFault_tick (s : State) (c : Chan) : (State.enterFault c s).tick = s.tick := rfl
@[simp] theorem State.enterFault_press (s : State) (c : Chan) : (State.enterFault c s).press = s.press := rfl
@[simp] theorem State.enterFault_hitList (s : State) (c : Chan) : (State.enterFault c s).hitList = s.hitList := rfl
@[simp] theorem State.enterFault_dropRange (s : State) (c : Chan) : (State.enterFault c s).dropRange = s.dropRange := rfl
@[simp] theorem State.enterFault_dropFlag (s : State) (c : Chan) : (State.enterFault c s).dropFlag = s.dropFlag := rfl
@[simp] theorem State.enterFault_offers (s : State) (c : Chan) : (State.enterFault c s).offers = s.offers := rfl
@[simp] theorem State.enterFault_assoc (s : State) (c : Chan) : (State.enterFault c s).assoc = s.assoc := rfl
@[simp] theorem State.enterFault_loc (s : State) (c : Chan) : (State.enterFault c s).loc = s.loc := rfl
@[simp] theorem State.enterFault_map (s : State) (c : Chan) : (State.enterFault c s).map = s.map := rfl
@[simp] theorem State.enterFault_chk (s : State) (c : Chan) : (State.enterFault c s).chk = s.chk := rfl
@[simp] theorem State.enterFault_ctl (s : State) (c : Chan) : (State.enterFault c s).ctl = s.ctl := rfl
@[simp] theorem State.enterFault_link (s : State) (c : Chan) : (State.enterFault c s).link = s.link := rfl

/-! ### toQuiet: changes chans alone -/

@[simp] theorem State.toQuiet_pending (s : State) (c : Chan) : (s.toQuiet c).pending = s.pending := rfl
@[simp] theorem State.toQuiet_inReset (s : State) (c : Chan) : (s.toQuiet c).inReset = s.inReset := rfl
@[simp] theorem State.toQuiet_tick (s : State) (c : Chan) : (s.toQuiet c).tick = s.tick := rfl
@[simp] theorem State.toQuiet_press (s : State) (c : Chan) : (s.toQuiet c).press = s.press := rfl
@[simp] theorem State.toQuiet_hitList (s : State) (c : Chan) : (s.toQuiet c).hitList = s.hitList := rfl
@[simp] theorem State.toQuiet_dropRange (s : State) (c : Chan) : (s.toQuiet c).dropRange = s.dropRange := rfl
@[simp] theorem State.toQuiet_dropFlag (s : State) (c : Chan) : (s.toQuiet c).dropFlag = s.dropFlag := rfl
@[simp] theorem State.toQuiet_offers (s : State) (c : Chan) : (s.toQuiet c).offers = s.offers := rfl
@[simp] theorem State.toQuiet_assoc (s : State) (c : Chan) : (s.toQuiet c).assoc = s.assoc := rfl
@[simp] theorem State.toQuiet_loc (s : State) (c : Chan) : (s.toQuiet c).loc = s.loc := rfl
@[simp] theorem State.toQuiet_map (s : State) (c : Chan) : (s.toQuiet c).map = s.map := rfl
@[simp] theorem State.toQuiet_chk (s : State) (c : Chan) : (s.toQuiet c).chk = s.chk := rfl
@[simp] theorem State.toQuiet_ctl (s : State) (c : Chan) : (s.toQuiet c).ctl = s.ctl := rfl
@[simp] theorem State.toQuiet_link (s : State) (c : Chan) : (s.toQuiet c).link = s.link := rfl
@[simp] theorem State.toQuiet_rep (s : State) (c : Chan) : (s.toQuiet c).rep = s.rep := rfl

/-! ### The fields that an update sets -/

@[simp] theorem State.setCh_chans (s : State) (c : Chan) (x : Channel) : (s.setCh c x).chans = s.chans.set c x := rfl
@[simp] theorem State.notify_rep (s : State) (n : Notice) :
    (s.notify n).rep = s.rep.notify s.ctl.run s.tick n := rfl
@[simp] theorem State.report_rep (s : State) (r : DataRec) :
    (s.report r).rep = s.rep.handOver s.ctl.run s.tick r := rfl
@[simp] theorem State.answer_rep (s : State) (f : Frame) (r : Result) (d : List Byte) :
    (s.answer f r d).rep = s.rep.placeReply s.ctl.run s.tick ⟨f.tag, f.kind, r, d⟩ := rfl
@[simp] theorem State.freeSlot_link (s : State) :
    s.freeSlot.link = { s.link with ready := s.link.ready.tail } := rfl
@[simp] theorem State.setRun_ctl (s : State) (r : RunState) : (s.setRun r).ctl = { s.ctl with run := r } := rfl
@[simp] theorem State.setGeom_loc (s : State) (g : Geometry) :
    (s.setGeom g).loc = { s.loc with geom := some g } := rfl
@[simp] theorem State.moveTo_assoc (s : State) (t : Nat) :
    (s.moveTo t).assoc = { s.assoc with position := t } := rfl
@[simp] theorem State.moveTo_dropRange (s : State) (t : Nat) :
    (s.moveTo t).dropRange = clearDrop t s.assoc.w s.dropRange := rfl

/-! ### Reading a channel after an update -/

@[simp] theorem State.setCh_ch_same (s : State) (c : Chan) (x : Channel) : (s.setCh c x).ch c = x := by
  simp [State.ch]

@[simp] theorem State.setCh_ch_other (s : State) {c d : Chan} (x : Channel) (h : d ≠ c) :
    (s.setCh c x).ch d = s.ch d := by
  simp only [State.ch, State.setCh_chans]
  exact Vector.getElem_set_ne _ _ fun e => h (Fin.ext e.symm)

@[simp] theorem State.modCh_ch_same (s : State) (c : Chan) (f : Channel → Channel) :
    (s.modCh c f).ch c = f (s.ch c) := State.setCh_ch_same s c _

@[simp] theorem State.modCh_ch_other (s : State) {c d : Chan} (f : Channel → Channel) (h : d ≠ c) :
    (s.modCh c f).ch d = s.ch d := State.setCh_ch_other s _ h

theorem State.modCh_ch (s : State) (c d : Chan) (f : Channel → Channel) :
    (s.modCh c f).ch d = if d = c then f (s.ch c) else s.ch d := by
  by_cases h : d = c
  · subst h; simp
  · simp [h]

@[simp] theorem State.mapCh_ch (s : State) (f : Chan → Channel → Channel) (c : Chan) :
    (s.mapCh f).ch c = f c (s.ch c) := by
  simp [State.ch, State.mapCh]

@[simp] theorem State.notify_ch (s : State) (n : Notice) (c : Chan) : (s.notify n).ch c = s.ch c := rfl
@[simp] theorem State.report_ch (s : State) (r : DataRec) (c : Chan) : (s.report r).ch c = s.ch c := rfl
@[simp] theorem State.answer_ch (s : State) (f : Frame) (r : Result) (d : List Byte) (c : Chan) :
    (s.answer f r d).ch c = s.ch c := rfl
@[simp] theorem State.freeSlot_ch (s : State) (c : Chan) : s.freeSlot.ch c = s.ch c := rfl
@[simp] theorem State.tellRun_ch (s : State) (k : RunCause) (b : RunState) (d : RunDetail) (c : Chan) :
    (s.tellRun k b d).ch c = s.ch c := rfl

end Sys2Proof.Machine
end

