-- ==== Sys2Proof/Laws/Ops.lean ====
section
/-!
SUPPORT. What the shared operations of Machine/Ops.lean leave unchanged, and what each of them can do, said once.
-/

namespace Sys2Proof.Machine

/-- A fold whose every step keeps a value keeps it. -/
theorem foldl_keeps {α β γ : Type} (g : α → γ) (f : α → β → α) (h : ∀ a b, g (f a b) = g a) (l : List β) (a : α) :
    g (l.foldl f a) = g a := by
  induction l generalizing a with
  | nil => rfl
  | cons b l ih => rw [List.foldl_cons, ih, h]

/-- A property that every step of a fold keeps holds after the fold. -/
theorem foldl_holds {α β : Type} (p : α → Prop) (f : α → β → α) (h : ∀ a b, p a → p (f a b)) (l : List β) (a : α)
    (ha : p a) : p (l.foldl f a) := by
  induction l generalizing a with
  | nil => exact ha
  | cons b l ih => exact ih _ (h a b ha)

/-! ### countOnset: changes press, rep alone -/

@[simp] theorem State.countOnset_pending (s : State) (c : Chan) (a : Nat) (st : Stamp) : (s.countOnset c a st).pending = s.pending := by
  unfold State.countOnset; (repeat' split) <;> rfl
@[simp] theorem State.countOnset_inReset (s : State) (c : Chan) (a : Nat) (st : Stamp) : (s.countOnset c a st).inReset = s.inReset := by
  unfold State.countOnset; (repeat' split) <;> rfl
@[simp] theorem State.countOnset_tick (s : State) (c : Chan) (a : Nat) (st : Stamp) : (s.countOnset c a st).tick = s.tick := by
  unfold State.countOnset; (repeat' split) <;> rfl
@[simp] theorem State.countOnset_chans (s : State) (c : Chan) (a : Nat) (st : Stamp) : (s.countOnset c a st).chans = s.chans := by
  unfold State.countOnset; (repeat' split) <;> rfl
@[simp] theorem State.countOnset_hitList (s : State) (c : Chan) (a : Nat) (st : Stamp) : (s.countOnset c a st).hitList = s.hitList := by
  unfold State.countOnset; (repeat' split) <;> rfl
@[simp] theorem State.countOnset_dropRange (s : State) (c : Chan) (a : Nat) (st : Stamp) : (s.countOnset c a st).dropRange = s.dropRange := by
  unfold State.countOnset; (repeat' split) <;> rfl
@[simp] theorem State.countOnset_dropFlag (s : State) (c : Chan) (a : Nat) (st : Stamp) : (s.countOnset c a st).dropFlag = s.dropFlag := by
  unfold State.countOnset; (repeat' split) <;> rfl
@[simp] theorem State.countOnset_offers (s : State) (c : Chan) (a : Nat) (st : Stamp) : (s.countOnset c a st).offers = s.offers := by
  unfold State.countOnset; (repeat' split) <;> rfl
@[simp] theorem State.countOnset_assoc (s : State) (c : Chan) (a : Nat) (st : Stamp) : (s.countOnset c a st).assoc = s.assoc := by
  unfold State.countOnset; (repeat' split) <;> rfl
@[simp] theorem State.countOnset_loc (s : State) (c : Chan) (a : Nat) (st : Stamp) : (s.countOnset c a st).loc = s.loc := by
  unfold State.countOnset; (repeat' split) <;> rfl
@[simp] theorem State.countOnset_map (s : State) (c : Chan) (a : Nat) (st : Stamp) : (s.countOnset c a st).map = s.map := by
  unfold State.countOnset; (repeat' split) <;> rfl
@[simp] theorem State.countOnset_chk (s : State) (c : Chan) (a : Nat) (st : Stamp) : (s.countOnset c a st).chk = s.chk := by
  unfold State.countOnset; (repeat' split) <;> rfl
@[simp] theorem State.countOnset_ctl (s : State) (c : Chan) (a : Nat) (st : Stamp) : (s.countOnset c a st).ctl = s.ctl := by
  unfold State.countOnset; (repeat' split) <;> rfl
@[simp] theorem State.countOnset_link (s : State) (c : Chan) (a : Nat) (st : Stamp) : (s.countOnset c a st).link = s.link := by
  unfold State.countOnset; (repeat' split) <;> rfl

/-! ### offer: changes hitList, dropRange, dropFlag, chans alone -/

@[simp] theorem State.offer_pending (s : State) (r : HitRec) : (s.offer r).pending = s.pending := by
  unfold State.offer; split <;> rfl
@[simp] theorem State.offer_inReset (s : State) (r : HitRec) : (s.offer r).inReset = s.inReset := by
  unfold State.offer; split <;> rfl
@[simp] theorem State.offer_tick (s : State) (r : HitRec) : (s.offer r).tick = s.tick := by
  unfold State.offer; split <;> rfl
@[simp] theorem State.offer_press (s : State) (r : HitRec) : (s.offer r).press = s.press := by
  unfold State.offer; split <;> rfl
@[simp] theorem State.offer_offers (s : State) (r : HitRec) : (s.offer r).offers = s.offers := by
  unfold State.offer; split <;> rfl
@[simp] theorem State.offer_assoc (s : State) (r : HitRec) : (s.offer r).assoc = s.assoc := by
  unfold State.offer; split <;> rfl
@[simp] theorem State.offer_loc (s : State) (r : HitRec) : (s.offer r).loc = s.loc := by
  unfold State.offer; split <;> rfl
@[simp] theorem State.offer_map (s : State) (r : HitRec) : (s.offer r).map = s.map := by
  unfold State.offer; split <;> rfl
@[simp] theorem State.offer_chk (s : State) (r : HitRec) : (s.offer r).chk = s.chk := by
  unfold State.offer; split <;> rfl
@[simp] theorem State.offer_ctl (s : State) (r : HitRec) : (s.offer r).ctl = s.ctl := by
  unfold State.offer; split <;> rfl
@[simp] theorem State.offer_link (s : State) (r : HitRec) : (s.offer r).link = s.link := by
  unfold State.offer; split <;> rfl
@[simp] theorem State.offer_rep (s : State) (r : HitRec) : (s.offer r).rep = s.rep := by
  unfold State.offer; split <;> rfl

/-! ### offerInTurn and takeOffers: change hitList, dropRange, dropFlag, offers, chans alone -/

@[simp] theorem State.offerInTurn_pending (s : State) (r : HitRec) : (s.offerInTurn r).pending = s.pending := by
  unfold State.offerInTurn; split <;> simp
@[simp] theorem State.offerInTurn_inReset (s : State) (r : HitRec) : (s.offerInTurn r).inReset = s.inReset := by
  unfold State.offerInTurn; split <;> simp
@[simp] theorem State.offerInTurn_tick (s : State) (r : HitRec) : (s.offerInTurn r).tick = s.tick := by
  unfold State.offerInTurn; split <;> simp
@[simp] theorem State.offerInTurn_press (s : State) (r : HitRec) : (s.offerInTurn r).press = s.press := by
  unfold State.offerInTurn; split <;> simp
@[simp] theorem State.offerInTurn_assoc (s : State) (r : HitRec) : (s.offerInTurn r).assoc = s.assoc := by
  unfold State.offerInTurn; split <;> simp
@[simp] theorem State.offerInTurn_loc (s : State) (r : HitRec) : (s.offerInTurn r).loc = s.loc := by
  unfold State.offerInTurn; split <;> simp
@[simp] theorem State.offerInTurn_map (s : State) (r : HitRec) : (s.offerInTurn r).map = s.map := by
  unfold State.offerInTurn; split <;> simp
@[simp] theorem State.offerInTurn_chk (s : State) (r : HitRec) : (s.offerInTurn r).chk = s.chk := by
  unfold State.offerInTurn; split <;> simp
@[simp] theorem State.offerInTurn_ctl (s : State) (r : HitRec) : (s.offerInTurn r).ctl = s.ctl := by
  unfold State.offerInTurn; split <;> simp
@[simp] theorem State.offerInTurn_link (s : State) (r : HitRec) : (s.offerInTurn r).link = s.link := by
  unfold State.offerInTurn; split <;> simp
@[simp] theorem State.offerInTurn_rep (s : State) (r : HitRec) : (s.offerInTurn r).rep = s.rep := by
  unfold State.offerInTurn; split <;> simp
@[simp] theorem State.takeOffers_pending (s : State) : s.takeOffers.pending = s.pending :=
  foldl_keeps (·.pending) State.offer (fun a b => State.offer_pending a b) _ _
@[simp] theorem State.takeOffers_inReset (s : State) : s.takeOffers.inReset = s.inReset :=
  foldl_keeps (·.inReset) State.offer (fun a b => State.offer_inReset a b) _ _
@[simp] theorem State.takeOffers_tick (s : State) : s.takeOffers.tick = s.tick :=
  foldl_keeps (·.tick) State.offer (fun a b => State.offer_tick a b) _ _
@[simp] theorem State.takeOffers_press (s : State) : s.takeOffers.press = s.press :=
  foldl_keeps (·.press) State.offer (fun a b => State.offer_press a b) _ _
@[simp] theorem State.takeOffers_assoc (s : State) : s.takeOffers.assoc = s.assoc :=
  foldl_keeps (·.assoc) State.offer (fun a b => State.offer_assoc a b) _ _
@[simp] theorem State.takeOffers_loc (s : State) : s.takeOffers.loc = s.loc :=
  foldl_keeps (·.loc) State.offer (fun a b => State.offer_loc a b) _ _
@[simp] theorem State.takeOffers_map (s : State) : s.takeOffers.map = s.map :=
  foldl_keeps (·.map) State.offer (fun a b => State.offer_map a b) _ _
@[simp] theorem State.takeOffers_chk (s : State) : s.takeOffers.chk = s.chk :=
  foldl_keeps (·.chk) State.offer (fun a b => State.offer_chk a b) _ _
@[simp] theorem State.takeOffers_ctl (s : State) : s.takeOffers.ctl = s.ctl :=
  foldl_keeps (·.ctl) State.offer (fun a b => State.offer_ctl a b) _ _
@[simp] theorem State.takeOffers_link (s : State) : s.takeOffers.link = s.link :=
  foldl_keeps (·.link) State.offer (fun a b => State.offer_link a b) _ _
@[simp] theorem State.takeOffers_rep (s : State) : s.takeOffers.rep = s.rep :=
  foldl_keeps (·.rep) State.offer (fun a b => State.offer_rep a b) _ _

/-! ### cutHit: changes hitList, dropRange, dropFlag, offers, chans alone -/

@[simp] theorem State.cutHit_pending (s : State) (c : Chan) (h : Hit) : (s.cutHit c h).pending = s.pending := by
  simp [State.cutHit]
@[simp] theorem State.cutHit_inReset (s : State) (c : Chan) (h : Hit) : (s.cutHit c h).inReset = s.inReset := by
  simp [State.cutHit]
@[simp] theorem State.cutHit_tick (s : State) (c : Chan) (h : Hit) : (s.cutHit c h).tick = s.tick := by
  simp [State.cutHit]
@[simp] theorem State.cutHit_press (s : State) (c : Chan) (h : Hit) : (s.cutHit c h).press = s.press := by
  simp [State.cutHit]
@[simp] theorem State.cutHit_assoc (s : State) (c : Chan) (h : Hit) : (s.cutHit c h).assoc = s.assoc := by
  simp [State.cutHit]
@[simp] theorem State.cutHit_loc (s : State) (c : Chan) (h : Hit) : (s.cutHit c h).loc = s.loc := by
  simp [State.cutHit]
@[simp] theorem State.cutHit_map (s : State) (c : Chan) (h : Hit) : (s.cutHit c h).map = s.map := by
  simp [State.cutHit]
@[simp] theorem State.cutHit_chk (s : State) (c : Chan) (h : Hit) : (s.cutHit c h).chk = s.chk := by
  simp [State.cutHit]
@[simp] theorem State.cutHit_ctl (s : State) (c : Chan) (h : Hit) : (s.cutHit c h).ctl = s.ctl := by
  simp [State.cutHit]
@[simp] theorem State.cutHit_link (s : State) (c : Chan) (h : Hit) : (s.cutHit c h).link = s.link := by
  simp [State.cutHit]
@[simp] theorem State.cutHit_rep (s : State) (c : Chan) (h : Hit) : (s.cutHit c h).rep = s.rep := by
  simp [State.cutHit]

/-! ### cutCh: changes hitList, dropRange, dropFlag, offers, chans alone -/

@[simp] theorem State.cutCh_pending (s : State) (c : Chan) : (s.cutCh c).pending = s.pending := by
  unfold State.cutCh; split <;> simp
@[simp] theorem State.cutCh_inReset (s : State) (c : Chan) : (s.cutCh c).inReset = s.inReset := by
  unfold State.cutCh; split <;> simp
@[simp] theorem State.cutCh_tick (s : State) (c : Chan) : (s.cutCh c).tick = s.tick := by
  unfold State.cutCh; split <;> simp
@[simp] theorem State.cutCh_press (s : State) (c : Chan) : (s.cutCh c).press = s.press := by
  unfold State.cutCh; split <;> simp
@[simp] theorem State.cutCh_assoc (s : State) (c : Chan) : (s.cutCh c).assoc = s.assoc := by
  unfold State.cutCh; split <;> simp
@[simp] theorem State.cutCh_loc (s : State) (c : Chan) : (s.cutCh c).loc = s.loc := by
  unfold State.cutCh; split <;> simp
@[simp] theorem State.cutCh_map (s : State) (c : Chan) : (s.cutCh c).map = s.map := by
  unfold State.cutCh; split <;> simp
@[simp] theorem State.cutCh_chk (s : State) (c : Chan) : (s.cutCh c).chk = s.chk := by
  unfold State.cutCh; split <;> simp
@[simp] theorem State.cutCh_ctl (s : State) (c : Chan) : (s.cutCh c).ctl = s.ctl := by
  unfold State.cutCh; split <;> simp
@[simp] theorem State.cutCh_link (s : State) (c : Chan) : (s.cutCh c).link = s.link := by
  unfold State.cutCh; split <;> simp
@[simp] theorem State.cutCh_rep (s : State) (c : Chan) : (s.cutCh c).rep = s.rep := by
  unfold State.cutCh; split <;> simp

/-! ### removeFromCheck: changes chk alone -/

@[simp] theorem State.removeFromCheck_pending (s : State) (c : Chan) : (s.removeFromCheck c).pending = s.pending := by
  unfold State.removeFromCheck; (repeat' split) <;> rfl
@[simp] theorem State.removeFromCheck_inReset (s : State) (c : Chan) : (s.removeFromCheck c).inReset = s.inReset := by
  unfold State.removeFromCheck; (repeat' split) <;> rfl
@[simp] theorem State.removeFromCheck_tick (s : State) (c : Chan) : (s.removeFromCheck c).tick = s.tick := by
  unfold State.removeFromCheck; (repeat' split) <;> rfl
@[simp] theorem State.removeFromCheck_press (s : State) (c : Chan) : (s.removeFromCheck c).press = s.press := by
  unfold State.removeFromCheck; (repeat' split) <;> rfl
@[simp] theorem State.removeFromCheck_chans (s : State) (c : Chan) : (s.removeFromCheck c).chans = s.chans := by
  unfold State.removeFromCheck; (repeat' split) <;> rfl
@[simp] theorem State.removeFromCheck_hitList (s : State) (c : Chan) : (s.removeFromCheck c).hitList = s.hitList := by
  unfold State.removeFromCheck; (repeat' split) <;> rfl
@[simp] theorem State.removeFromCheck_dropRange (s : State) (c : Chan) : (s.removeFromCheck c).dropRange = s.dropRange := by
  unfold State.removeFromCheck; (repeat' split) <;> rfl
@[simp] theorem State.removeFromCheck_dropFlag (s : State) (c : Chan) : (s.removeFromCheck c).dropFlag = s.dropFlag := by
  unfold State.removeFromCheck; (repeat' split) <;> rfl
@[simp] theorem State.removeFromCheck_offers (s : State) (c : Chan) : (s.removeFromCheck c).offers = s.offers := by
  unfold State.removeFromCheck; (repeat' split) <;> rfl
@[simp] theorem State.removeFromCheck_assoc (s : State) (c : Chan) : (s.removeFromCheck c).assoc = s.assoc := by
  unfold State.removeFromCheck; (repeat' split) <;> rfl
@[simp] theorem State.removeFromCheck_loc (s : State) (c : Chan) : (s.removeFromCheck c).loc = s.loc := by
  unfold State.removeFromCheck; (repeat' split) <;> rfl
@[simp] theorem State.removeFromCheck_map (s : State) (c : Chan) : (s.removeFromCheck c).map = s.map := by
  unfold State.removeFromCheck; (repeat' split) <;> rfl
@[simp] theorem State.removeFromCheck_ctl (s : State) (c : Chan) : (s.removeFromCheck c).ctl = s.ctl := by
  unfold State.removeFromCheck; (repeat' split) <;> rfl
@[simp] theorem State.removeFromCheck_link (s : State) (c : Chan) : (s.removeFromCheck c).link = s.link := by
  unfold State.removeFromCheck; (repeat' split) <;> rfl
@[simp] theorem State.removeFromCheck_rep (s : State) (c : Chan) : (s.removeFromCheck c).rep = s.rep := by
  unfold State.removeFromCheck; (repeat' split) <;> rfl

/-! ### releaseCheck: changes chk, chans alone -/

@[simp] theorem State.releaseCheck_pending (s : State) (ck : Check) : (s.releaseCheck ck).pending = s.pending := by
  rfl
@[simp] theorem State.releaseCheck_inReset (s : State) (ck : Check) : (s.releaseCheck ck).inReset = s.inReset := by
  rfl
@[simp] theorem State.releaseCheck_tick (s : State) (ck : Check) : (s.releaseCheck ck).tick = s.tick := by
  rfl
@[simp] theorem State.releaseCheck_press (s : State) (ck : Check) : (s.releaseCheck ck).press = s.press := by
  rfl
@[simp] theorem State.releaseCheck_hitList (s : State) (ck : Check) : (s.releaseCheck ck).hitList = s.hitList := by
  rfl
@[simp] theorem State.releaseCheck_dropRange (s : State) (ck : Check) : (s.releaseCheck ck).dropRange = s.dropRange := by
  rfl
@[simp] theorem State.releaseCheck_dropFlag (s : State) (ck : Check) : (s.releaseCheck ck).dropFlag = s.dropFlag := by
  rfl
@[simp] theorem State.releaseCheck_offers (s : State) (ck : Check) : (s.releaseCheck ck).offers = s.offers := by
  rfl
@[simp] theorem State.releaseCheck_assoc (s : State) (ck : Check) : (s.releaseCheck ck).assoc = s.assoc := by
  rfl
@[simp] theorem State.releaseCheck_loc (s : State) (ck : Check) : (s.releaseCheck ck).loc = s.loc := by
  rfl
@[simp] theorem State.releaseCheck_map (s : State) (ck : Check) : (s.releaseCheck ck).map = s.map := by
  rfl
@[simp] theorem State.releaseCheck_ctl (s : State) (ck : Check) : (s.releaseCheck ck).ctl = s.ctl := by
  rfl
@[simp] theorem State.releaseCheck_link (s : State) (ck : Check) : (s.releaseCheck ck).link = s.link := by
  rfl
@[simp] theorem State.releaseCheck_rep (s : State) (ck : Check) : (s.releaseCheck ck).rep = s.rep := by
  rfl

/-! ### endSpan: changes dropRange alone -/

@[simp] theorem State.endSpan_pending (s : State) (ck : Check) : (s.endSpan ck).pending = s.pending := by
  unfold State.endSpan; split <;> rfl
@[simp] theorem State.endSpan_inReset (s : State) (ck : Check) : (s.endSpan ck).inReset = s.inReset := by
  unfold State.endSpan; split <;> rfl
@[simp] theorem State.endSpan_tick (s : State) (ck : Check) : (s.endSpan ck).tick = s.tick := by
  unfold State.endSpan; split <;> rfl
@[simp] theorem State.endSpan_press (s : State) (ck : Check) : (s.endSpan ck).press = s.press := by
  unfold State.endSpan; split <;> rfl
@[simp] theorem State.endSpan_chans (s : State) (ck : Check) : (s.endSpan ck).chans = s.chans := by
  unfold State.endSpan; split <;> rfl
@[simp] theorem State.endSpan_hitList (s : State) (ck : Check) : (s.endSpan ck).hitList = s.hitList := by
  unfold State.endSpan; split <;> rfl
@[simp] theorem State.endSpan_dropFlag (s : State) (ck : Check) : (s.endSpan ck).dropFlag = s.dropFlag := by
  unfold State.endSpan; split <;> rfl
@[simp] theorem State.endSpan_offers (s : State) (ck : Check) : (s.endSpan ck).offers = s.offers := by
  unfold State.endSpan; split <;> rfl
@[simp] theorem State.endSpan_assoc (s : State) (ck : Check) : (s.endSpan ck).assoc = s.assoc := by
  unfold State.endSpan; split <;> rfl
@[simp] theorem State.endSpan_loc (s : State) (ck : Check) : (s.endSpan ck).loc = s.loc := by
  unfold State.endSpan; split <;> rfl
@[simp] theorem State.endSpan_map (s : State) (ck : Check) : (s.endSpan ck).map = s.map := by
  unfold State.endSpan; split <;> rfl
@[simp] theorem State.endSpan_chk (s : State) (ck : Check) : (s.endSpan ck).chk = s.chk := by
  unfold State.endSpan; split <;> rfl
@[simp] theorem State.endSpan_ctl (s : State) (ck : Check) : (s.endSpan ck).ctl = s.ctl := by
  unfold State.endSpan; split <;> rfl
@[simp] theorem State.endSpan_link (s : State) (ck : Check) : (s.endSpan ck).link = s.link := by
  unfold State.endSpan; split <;> rfl
@[simp] theorem State.endSpan_rep (s : State) (ck : Check) : (s.endSpan ck).rep = s.rep := by
  unfold State.endSpan; split <;> rfl

/-! ### abortCheck: changes chk, chans, dropRange, rep alone -/

@[simp] theorem State.abortCheck_pending (s : State) (w : AbortReason) : (s.abortCheck w).pending = s.pending := by
  unfold State.abortCheck; split <;> simp
@[simp] theorem State.abortCheck_inReset (s : State) (w : AbortReason) : (s.abortCheck w).inReset = s.inReset := by
  unfold State.abortCheck; split <;> simp
@[simp] theorem State.abortCheck_tick (s : State) (w : AbortReason) : (s.abortCheck w).tick = s.tick := by
  unfold State.abortCheck; split <;> simp
@[simp] theorem State.abortCheck_press (s : State) (w : AbortReason) : (s.abortCheck w).press = s.press := by
  unfold State.abortCheck; split <;> simp
@[simp] theorem State.abortCheck_hitList (s : State) (w : AbortReason) : (s.abortCheck w).hitList = s.hitList := by
  unfold State.abortCheck; split <;> simp
@[simp] theorem State.abortCheck_dropFlag (s : State) (w : AbortReason) : (s.abortCheck w).dropFlag = s.dropFlag := by
  unfold State.abortCheck; split <;> simp
@[simp] theorem State.abortCheck_offers (s : State) (w : AbortReason) : (s.abortCheck w).offers = s.offers := by
  unfold State.abortCheck; split <;> simp
@[simp] theorem State.abortCheck_assoc (s : State) (w : AbortReason) : (s.abortCheck w).assoc = s.assoc := by
  unfold State.abortCheck; split <;> simp
@[simp] theorem State.abortCheck_loc (s : State) (w : AbortReason) : (s.abortCheck w).loc = s.loc := by
  unfold State.abortCheck; split <;> simp
@[simp] theorem State.abortCheck_map (s : State) (w : AbortReason) : (s.abortCheck w).map = s.map := by
  unfold State.abortCheck; split <;> simp
@[simp] theorem State.abortCheck_ctl (s : State) (w : AbortReason) : (s.abortCheck w).ctl = s.ctl := by
  unfold State.abortCheck; split <;> simp
@[simp] theorem State.abortCheck_link (s : State) (w : AbortReason) : (s.abortCheck w).link = s.link := by
  unfold State.abortCheck; split <;> simp

/-! ### cutAll, finishCuts and lastCuts: change hitList, dropRange, dropFlag, offers, chans alone -/

@[simp] theorem State.cutAll_pending (s : State) (cs : List Chan) : (s.cutAll cs).pending = s.pending :=
  foldl_keeps (·.pending) State.cutCh (fun a b => State.cutCh_pending a b) _ _
@[simp] theorem State.cutAll_inReset (s : State) (cs : List Chan) : (s.cutAll cs).inReset = s.inReset :=
  foldl_keeps (·.inReset) State.cutCh (fun a b => State.cutCh_inReset a b) _ _
@[simp] theorem State.cutAll_tick (s : State) (cs : List Chan) : (s.cutAll cs).tick = s.tick :=
  foldl_keeps (·.tick) State.cutCh (fun a b => State.cutCh_tick a b) _ _
@[simp] theorem State.cutAll_press (s : State) (cs : List Chan) : (s.cutAll cs).press = s.press :=
  foldl_keeps (·.press) State.cutCh (fun a b => State.cutCh_press a b) _ _
@[simp] theorem State.cutAll_assoc (s : State) (cs : List Chan) : (s.cutAll cs).assoc = s.assoc :=
  foldl_keeps (·.assoc) State.cutCh (fun a b => State.cutCh_assoc a b) _ _
@[simp] theorem State.cutAll_loc (s : State) (cs : List Chan) : (s.cutAll cs).loc = s.loc :=
  foldl_keeps (·.loc) State.cutCh (fun a b => State.cutCh_loc a b) _ _
@[simp] theorem State.cutAll_map (s : State) (cs : List Chan) : (s.cutAll cs).map = s.map :=
  foldl_keeps (·.map) State.cutCh (fun a b => State.cutCh_map a b) _ _
@[simp] theorem State.cutAll_chk (s : State) (cs : List Chan) : (s.cutAll cs).chk = s.chk :=
  foldl_keeps (·.chk) State.cutCh (fun a b => State.cutCh_chk a b) _ _
@[simp] theorem State.cutAll_ctl (s : State) (cs : List Chan) : (s.cutAll cs).ctl = s.ctl :=
  foldl_keeps (·.ctl) State.cutCh (fun a b => State.cutCh_ctl a b) _ _
@[simp] theorem State.cutAll_link (s : State) (cs : List Chan) : (s.cutAll cs).link = s.link :=
  foldl_keeps (·.link) State.cutCh (fun a b => State.cutCh_link a b) _ _
@[simp] theorem State.cutAll_rep (s : State) (cs : List Chan) : (s.cutAll cs).rep = s.rep :=
  foldl_keeps (·.rep) State.cutCh (fun a b => State.cutCh_rep a b) _ _
@[simp] theorem State.finishCuts_pending (s : State) : s.finishCuts.pending = s.pending := by
  unfold State.finishCuts; split <;> simp
@[simp] theorem State.finishCuts_inReset (s : State) : s.finishCuts.inReset = s.inReset := by
  unfold State.finishCuts; split <;> simp
@[simp] theorem State.finishCuts_tick (s : State) : s.finishCuts.tick = s.tick := by
  unfold State.finishCuts; split <;> simp
@[simp] theorem State.finishCuts_press (s : State) : s.finishCuts.press = s.press := by
  unfold State.finishCuts; split <;> simp
@[simp] theorem State.finishCuts_assoc (s : State) : s.finishCuts.assoc = s.assoc := by
  unfold State.finishCuts; split <;> simp
@[simp] theorem State.finishCuts_loc (s : State) : s.finishCuts.loc = s.loc := by
  unfold State.finishCuts; split <;> simp
@[simp] theorem State.finishCuts_map (s : State) : s.finishCuts.map = s.map := by
  unfold State.finishCuts; split <;> simp
@[simp] theorem State.finishCuts_chk (s : State) : s.finishCuts.chk = s.chk := by
  unfold State.finishCuts; split <;> simp
@[simp] theorem State.finishCuts_ctl (s : State) : s.finishCuts.ctl = s.ctl := by
  unfold State.finishCuts; split <;> simp
@[simp] theorem State.finishCuts_link (s : State) : s.finishCuts.link = s.link := by
  unfold State.finishCuts; split <;> simp
@[simp] theorem State.finishCuts_rep (s : State) : s.finishCuts.rep = s.rep := by
  unfold State.finishCuts; split <;> simp
@[simp] theorem State.lastCuts_pending (s : State) : s.lastCuts.pending = s.pending := by
  unfold State.lastCuts; split <;> simp
@[simp] theorem State.lastCuts_inReset (s : State) : s.lastCuts.inReset = s.inReset := by
  unfold State.lastCuts; split <;> simp
@[simp] theorem State.lastCuts_tick (s : State) : s.lastCuts.tick = s.tick := by
  unfold State.lastCuts; split <;> simp
@[simp] theorem State.lastCuts_press (s : State) : s.lastCuts.press = s.press := by
  unfold State.lastCuts; split <;> simp
@[simp] theorem State.lastCuts_assoc (s : State) : s.lastCuts.assoc = s.assoc := by
  unfold State.lastCuts; split <;> simp
@[simp] theorem State.lastCuts_loc (s : State) : s.lastCuts.loc = s.loc := by
  unfold State.lastCuts; split <;> simp
@[simp] theorem State.lastCuts_map (s : State) : s.lastCuts.map = s.map := by
  unfold State.lastCuts; split <;> simp
@[simp] theorem State.lastCuts_chk (s : State) : s.lastCuts.chk = s.chk := by
  unfold State.lastCuts; split <;> simp
@[simp] theorem State.lastCuts_ctl (s : State) : s.lastCuts.ctl = s.ctl := by
  unfold State.lastCuts; split <;> simp
@[simp] theorem State.lastCuts_link (s : State) : s.lastCuts.link = s.link := by
  unfold State.lastCuts; split <;> simp
@[simp] theorem State.lastCuts_rep (s : State) : s.lastCuts.rep = s.rep := by
  unfold State.lastCuts; split <;> simp

/-! ### setFreezing: changes dropRange, chans, ctl, rep, chk alone -/

@[simp] theorem State.setFreezing_pending (s : State) (w : FreezeReason) (k : RunCause) (d : RunDetail) :
    (s.setFreezing w k d).pending = s.pending := by
  simp only [State.setFreezing, State.abortCheck_pending]; rfl
@[simp] theorem State.setFreezing_inReset (s : State) (w : FreezeReason) (k : RunCause) (d : RunDetail) :
    (s.setFreezing w k d).inReset = s.inReset := by
  simp only [State.setFreezing, State.abortCheck_inReset]; rfl
@[simp] theorem State.setFreezing_tick (s : State) (w : FreezeReason) (k : RunCause) (d : RunDetail) :
    (s.setFreezing w k d).tick = s.tick := by
  simp only [State.setFreezing, State.abortCheck_tick]; rfl
@[simp] theorem State.setFreezing_press (s : State) (w : FreezeReason) (k : RunCause) (d : RunDetail) :
    (s.setFreezing w k d).press = s.press := by
  simp only [State.setFreezing, State.abortCheck_press]; rfl
@[simp] theorem State.setFreezing_hitList (s : State) (w : FreezeReason) (k : RunCause) (d : RunDetail) :
    (s.setFreezing w k d).hitList = s.hitList := by
  simp only [State.setFreezing, State.abortCheck_hitList]; rfl
@[simp] theorem State.setFreezing_dropFlag (s : State) (w : FreezeReason) (k : RunCause) (d : RunDetail) :
    (s.setFreezing w k d).dropFlag = s.dropFlag := by
  simp only [State.setFreezing, State.abortCheck_dropFlag]; rfl
@[simp] theorem State.setFreezing_offers (s : State) (w : FreezeReason) (k : RunCause) (d : RunDetail) :
    (s.setFreezing w k d).offers = s.offers := by
  simp only [State.setFreezing, State.abortCheck_offers]; rfl
@[simp] theorem State.setFreezing_assoc (s : State) (w : FreezeReason) (k : RunCause) (d : RunDetail) :
    (s.setFreezing w k d).assoc = s.assoc := by
  simp only [State.setFreezing, State.abortCheck_assoc]; rfl
@[simp] theorem State.setFreezing_loc (s : State) (w : FreezeReason) (k : RunCause) (d : RunDetail) :
    (s.setFreezing w k d).loc = s.loc := by
  simp only [State.setFreezing, State.abortCheck_loc]; rfl
@[simp] theorem State.setFreezing_map (s : State) (w : FreezeReason) (k : RunCause) (d : RunDetail) :
    (s.setFreezing w k d).map = s.map := by
  simp only [State.setFreezing, State.abortCheck_map]; rfl
@[simp] theorem State.setFreezing_link (s : State) (w : FreezeReason) (k : RunCause) (d : RunDetail) :
    (s.setFreezing w k d).link = s.link := by
  simp only [State.setFreezing, State.abortCheck_link]; rfl

/-! ### enterFreezing: changes hitList, dropRange, dropFlag, offers, chans, ctl, rep, chk alone -/

@[simp] theorem State.enterFreezing_pending (s : State) (w : FreezeReason) (k : RunCause) (d : RunDetail) :
    (s.enterFreezing w k d).pending = s.pending := by
  simp [State.enterFreezing]
@[simp] theorem State.enterFreezing_inReset (s : State) (w : FreezeReason) (k : RunCause) (d : RunDetail) :
    (s.enterFreezing w k d).inReset = s.inReset := by
  simp [State.enterFreezing]
@[simp] theorem State.enterFreezing_tick (s : State) (w : FreezeReason) (k : RunCause) (d : RunDetail) :
    (s.enterFreezing w k d).tick = s.tick := by
  simp [State.enterFreezing]
@[simp] theorem State.enterFreezing_press (s : State) (w : FreezeReason) (k : RunCause) (d : RunDetail) :
    (s.enterFreezing w k d).press = s.press := by
  simp [State.enterFreezing]
@[simp] theorem State.enterFreezing_assoc (s : State) (w : FreezeReason) (k : RunCause) (d : RunDetail) :
    (s.enterFreezing w k d).assoc = s.assoc := by
  simp [State.enterFreezing]
@[simp] theorem State.enterFreezing_loc (s : State) (w : FreezeReason) (k : RunCause) (d : RunDetail) :
    (s.enterFreezing w k d).loc = s.loc := by
  simp [State.enterFreezing]
@[simp] theorem State.enterFreezing_map (s : State) (w : FreezeReason) (k : RunCause) (d : RunDetail) :
    (s.enterFreezing w k d).map = s.map := by
  simp [State.enterFreezing]
@[simp] theorem State.enterFreezing_link (s : State) (w : FreezeReason) (k : RunCause) (d : RunDetail) :
    (s.enterFreezing w k d).link = s.link := by
  simp [State.enterFreezing]

/-! ### clipOnset: changes hitList, dropRange, dropFlag, offers, chans, ctl, rep, chk alone -/

@[simp] theorem State.clipOnset_pending (s : State) (c : Chan) : (s.clipOnset c).pending = s.pending := by
  unfold State.clipOnset; (repeat' split) <;> simp
@[simp] theorem State.clipOnset_inReset (s : State) (c : Chan) : (s.clipOnset c).inReset = s.inReset := by
  unfold State.clipOnset; (repeat' split) <;> simp
@[simp] theorem State.clipOnset_tick (s : State) (c : Chan) : (s.clipOnset c).tick = s.tick := by
  unfold State.clipOnset; (repeat' split) <;> simp
@[simp] theorem State.clipOnset_press (s : State) (c : Chan) : (s.clipOnset c).press = s.press := by
  unfold State.clipOnset; (repeat' split) <;> simp
@[simp] theorem State.clipOnset_assoc (s : State) (c : Chan) : (s.clipOnset c).assoc = s.assoc := by
  unfold State.clipOnset; (repeat' split) <;> simp
@[simp] theorem State.clipOnset_loc (s : State) (c : Chan) : (s.clipOnset c).loc = s.loc := by
  unfold State.clipOnset; (repeat' split) <;> simp
@[simp] theorem State.clipOnset_map (s : State) (c : Chan) : (s.clipOnset c).map = s.map := by
  unfold State.clipOnset; (repeat' split) <;> simp
@[simp] theorem State.clipOnset_link (s : State) (c : Chan) : (s.clipOnset c).link = s.link := by
  unfold State.clipOnset; (repeat' split) <;> simp

/-! ### dropTest: changes hitList, dropRange, dropFlag, offers, chans, ctl, rep, chk alone -/

@[simp] theorem State.dropTest_pending (s : State) (a b : Nat) : (s.dropTest a b).pending = s.pending := by
  unfold State.dropTest; split <;> simp
@[simp] theorem State.dropTest_inReset (s : State) (a b : Nat) : (s.dropTest a b).inReset = s.inReset := by
  unfold State.dropTest; split <;> simp
@[simp] theorem State.dropTest_tick (s : State) (a b : Nat) : (s.dropTest a b).tick = s.tick := by
  unfold State.dropTest; split <;> simp
@[simp] theorem State.dropTest_press (s : State) (a b : Nat) : (s.dropTest a b).press = s.press := by
  unfold State.dropTest; split <;> simp
@[simp] theorem State.dropTest_assoc (s : State) (a b : Nat) : (s.dropTest a b).assoc = s.assoc := by
  unfold State.dropTest; split <;> simp
@[simp] theorem State.dropTest_loc (s : State) (a b : Nat) : (s.dropTest a b).loc = s.loc := by
  unfold State.dropTest; split <;> simp
@[simp] theorem State.dropTest_map (s : State) (a b : Nat) : (s.dropTest a b).map = s.map := by
  unfold State.dropTest; split <;> simp
@[simp] theorem State.dropTest_link (s : State) (a b : Nat) : (s.dropTest a b).link = s.link := by
  unfold State.dropTest; split <;> simp

/-! ### What each can do -/

/-- A notice enters at the tail and the transmitter chooses, or it is lost and counted (R181, R187). -/
theorem State.notify_cases (s : State) (n : Notice) :
    (s.rep.notices.length < 16 ∧
      s.notify n = { s with rep := Report.choose s.ctl.run s.tick { s.rep with notices := s.rep.notices ++ [n] } }) ∨
    (16 ≤ s.rep.notices.length ∧
      s.notify n =
        { s with rep := { s.rep with noticesLost := min 4294967295 (s.rep.noticesLost + 1), noticeLostFlag := true } }) := by
  by_cases h : s.rep.notices.length < 16
  · exact Or.inl ⟨h, by simp [State.notify, Report.notify, Config.noticeCap, h]⟩
  · exact Or.inr ⟨by omega, by simp [State.notify, Report.notify, Config.noticeCap, h, satAdd, Config.sat32]⟩

/-- An offer enters the record in order, or drops it into the range, with the channel's counters (R47, R49). -/
theorem State.offer_cases (s : State) (r : HitRec) :
    (s.hitList.length < 512 ∧
      s.offer r = { s with hitList := insertEntry ⟨r, false⟩ s.hitList }.modCh r.channel fun x =>
        { x with ended := satAdd Config.sat32 x.ended 1, entered := satAdd Config.sat32 x.entered 1 }) ∨
    (512 ≤ s.hitList.length ∧
      s.offer r = { s with dropRange := some (extendDrop r.arrival s.dropRange), dropFlag := true }.modCh r.channel
        fun x => { x with ended := satAdd Config.sat32 x.ended 1, dropped := satAdd Config.sat32 x.dropped 1 }) := by
  by_cases h : s.hitList.length < 512
  · exact Or.inl ⟨h, by simp [State.offer, Config.listCap, h]⟩
  · exact Or.inr ⟨by omega, by simp [State.offer, Config.listCap, h]⟩

/-- A request row either finds no frame of its own to take, or takes one whole (R173). -/
theorem State.handle_cases (isRow : Frame → Bool) (act : List Byte → State → Answer) (s : State) :
    (s.request isRow = none ∧ State.handle isRow act s = s) ∨
    ∃ f, s.request isRow = some f ∧
      State.handle isRow act s =
        (act f.payload s.freeSlot).1.answer f (act f.payload s.freeSlot).2.1 (act f.payload s.freeSlot).2.2 := by
  unfold State.handle
  cases s.request isRow with
  | none => exact Or.inl ⟨rfl, rfl⟩
  | some f => exact Or.inr ⟨f, rfl, rfl⟩

/-- The frame taken is the older READY one, one of the row's, with the reply slot empty (R173). -/
theorem State.request_eq_some {s : State} {isRow : Frame → Bool} {f : Frame} (h : s.request isRow = some f) :
    s.rep.reply = none ∧ s.link.ready.head? = some f ∧ isRow f = true := by
  unfold State.request at h
  cases hr : s.rep.reply with
  | some p => simp [hr] at h
  | none =>
    cases hq : s.link.ready with
    | nil => simp [hr, hq] at h
    | cons g gs =>
      simp only [hr, hq] at h
      split at h
      · next hf => cases h; exact ⟨rfl, rfl, hf⟩
      · cases h

/-- With the reply slot empty and a frame of the row READY, the row takes it (R173). -/
theorem State.request_of_ready {s : State} {isRow : Frame → Bool} {f : Frame} {rest : List Frame}
    (hr : s.rep.reply = none) (hq : s.link.ready = f :: rest) (hf : isRow f = true) : s.request isRow = some f := by
  simp [State.request, hr, hq, hf]

/-- A step of the part is held in a full reset and taken otherwise (R163). -/
theorem live_of_running (f : State → State) {s : State} (h : s.inReset = false) :
    live f s = .next (f s) := by simp [live, h]

theorem live_of_reset (f : State → State) {s : State} (h : s.inReset = true) : live f s = .next s := by
  simp [live, h]

/-- Insertion adds exactly one entry. -/
@[simp] theorem insertEntry_length (e : Entry) (l : List Entry) : (insertEntry e l).length = l.length + 1 := by
  induction l with
  | nil => rfl
  | cons x xs ih => simp only [insertEntry]; split <;> simp [ih]

/-- The list takes an offer in its turn at once, or it waits behind the lower-numbered ones (R48, log 34). -/
theorem State.offerInTurn_cases (s : State) (r : HitRec) :
    (s.offersNow r.channel = true ∧ s.offerInTurn r = s.offer r) ∨
    (s.offersNow r.channel = false ∧ s.offerInTurn r = { s with offers := insertOffer r s.offers }) := by
  unfold State.offerInTurn
  cases s.offersNow r.channel <;> simp

/-- An offer placed among those that wait adds exactly one. -/
@[simp] theorem insertOffer_length (r : HitRec) (l : List HitRec) : (insertOffer r l).length = l.length + 1 := by
  induction l with
  | nil => rfl
  | cons x xs ih => simp only [insertOffer]; split <;> simp [ih]

/-- No offer waits once the list has taken them (R48). -/
@[simp] theorem State.takeOffers_offers (s : State) : s.takeOffers.offers = [] :=
  foldl_keeps (·.offers) State.offer (fun a b => State.offer_offers a b) _ _

/-- An offer never takes the list past 512 entries (R44, R49). -/
theorem State.offer_length (s : State) (r : HitRec) (h : s.hitList.length ≤ 512) :
    (s.offer r).hitList.length ≤ 512 := by
  rcases s.offer_cases r with ⟨hl, he⟩ | ⟨_, he⟩ <;> rw [he] <;> simp <;> omega

end Sys2Proof.Machine
end

