-- ==== Sys2Proof/Laws/Values.lean ====
section
/-! SUPPORT. The small value operations (fields of bytes, ranges, clamping, saturation) in plain arithmetic. -/

namespace Sys2Proof.Machine

theorem outside_iff (lo hi v : Nat) : outside lo hi v = true ↔ v < lo ∨ hi < v := by simp [outside]

theorem doneOr_eq (b : Bool) : doneOr b = if b = true then .clamped else .done := by cases b <;> rfl

theorem nat16_eq (hi lo : Byte) : nat16 hi lo = hi.toNat * 256 + lo.toNat := rfl

theorem nat16_lt (hi lo : Byte) : nat16 hi lo < 65536 := by
  have := hi.isLt
  have := lo.isLt
  simp only [nat16]
  omega

theorem nat24_eq (a b c : Byte) : nat24 a b c = (a.toNat * 256 + b.toNat) * 256 + c.toNat := rfl

@[simp] theorem be_length (n v : Nat) : (be n v).length = n := by induction n generalizing v <;> simp [be, *]

theorem clampTo_eq (lo hi v : Nat) : clampTo lo hi v = max lo (min hi v) := rfl

theorem satAdd_eq (cap a b : Nat) : satAdd cap a b = min cap (a + b) := rfl

theorem absDiff_eq (a b : Nat) : absDiff a b = max a b - min a b := by simp only [absDiff]; omega

theorem passed_iff (tick d : Nat) (seen : Bool) :
    passed tick seen d = true ↔ d < tick ∨ (d = tick ∧ seen = true) := by simp [passed]

/-- A run state in which configuration requests are taken fails neither test of theirs (R175). -/
theorem State.configTest_none {s : State} (h : s.ctl.run = .idle ∨ s.ctl.run = .frozen) : s.configTest = none := by
  rcases h with h | h <;> simp [State.configTest, h]

end Sys2Proof.Machine
end

