-- ==== Sys2Proof/Laws/Pressure.lean ====
section
/-! SUPPORT. The pressure monitor: what one computation leaves in each field, and the frames of its steps. -/

namespace Sys2Proof.Machine

/-- The below-max span moves alone (R14). -/
theorem Pressure.moveSpan_eq (p : Pressure) (pf : Nat) (phase : Phase) :
    ∃ x y z, p.moveSpan pf phase = { p with spanOpen := x, spanCount := y, spanMarked := z } := by
  unfold Pressure.moveSpan
  (repeat' split) <;> exact ⟨_, _, _, rfl⟩

/-- The stable count of R9. -/
def Pressure.nextStable (p : Pressure) (pf : Nat) : Nat :=
  if absDiff pf p.pRef ≤ p.band then satAdd Config.sat16 p.stable 1 else 0

/-- What a computation leaves (R9 to R11, R14). -/
theorem Pressure.compute_eq (p : Pressure) (pf : Nat) : ∃ x y z, p.compute pf =
    { p with
      pMax := max p.pMax pf
      stable := p.nextStable pf
      pRef := if absDiff pf p.pRef ≤ p.band then p.pRef else pf
      pFilt := pf
      phase := (p.track pf).pick pf
      pPrev := pf
      holdIndex :=
        if (p.track pf).pick pf = .hold ∧ p.phase ≠ .hold then satAdd Config.sat8 p.holdIndex 1 else p.holdIndex
      spanOpen := x
      spanCount := y
      spanMarked := z } := by
  obtain ⟨x, y, z, h⟩ := Pressure.moveSpan_eq
    { p.track pf with
      pFilt := pf
      phase := (p.track pf).pick pf
      pPrev := pf
      holdIndex :=
        if (p.track pf).pick pf = .hold ∧ p.phase ≠ .hold then satAdd Config.sat8 p.holdIndex 1 else p.holdIndex }
    pf ((p.track pf).pick pf)
  exact ⟨x, y, z, h⟩

/-- The phase chosen, from the values before the computation (R9, R10). -/
theorem Pressure.pick_track (p : Pressure) (pf : Nat) : (p.track pf).pick pf =
    if p.holdCount ≤ p.nextStable pf then .hold
    else if max p.pMax pf - p.band ≤ pf then .ramp
    else if p.pPrev ≤ pf then .reload
    else .unload := rfl

/-- Taking a code's flag changes the flag, its change flag and the report unit alone (R7). -/
theorem State.takeFlag_eq (s : State) (code : Code) : ∃ r, s.takeFlag code =
    { s with
      rep := r
      press :=
        { s.press with
          flag := s.press.nextFlag code.toNat
          flagChanged := s.press.flagChanged || decide (s.press.nextFlag code.toNat ≠ s.press.flag) } } := by
  unfold State.takeFlag
  split
  · next h => exact ⟨s.rep, by simp [h]⟩
  · next h => exact ⟨_, by simp only [State.notify, h, ne_eq, not_false_eq_true, decide_true, Bool.or_true]; rfl⟩

/-- An abort ends the check and changes no more than channels in TESTING, the drop range and the report unit (R148). -/
theorem State.abortCheck_eq (s : State) (w : AbortReason) : ∃ ch d r, s.abortCheck w =
    { s with chk := { s.chk with check := none }, chans := ch, dropRange := d, rep := r } := by
  unfold State.abortCheck
  split
  · next h => exact ⟨s.chans, s.dropRange, s.rep, by rw [← h]⟩
  · next ck h =>
    simp only [State.notify, State.endSpan]
    split <;> exact ⟨_, _, _, rfl⟩

/-- Telling of a phase change leaves the pressure monitor and run control alone; it ends a check taken in ARMED when
the phase has left HOLD (R11, R148). -/
theorem State.tellPhase_eq (s : State) (old : Phase) : ∃ k ch d r, s.tellPhase old =
      { s with chk := k, chans := ch, dropRange := d, rep := r } ∧
    (k = s.chk ∨ k = { s.chk with check := none }) ∧
    (∀ ck, s.chk.check = some ck → ck.startRun = .armed → old = .hold → s.press.phase ≠ .hold → k.check = none) := by
  unfold State.tellPhase
  split
  · next h =>
    exact ⟨s.chk, s.chans, s.dropRange, s.rep, rfl, Or.inl rfl, fun ck _ _ h1 h2 => absurd (h.trans h1) h2⟩
  · simp only
    split
    · next h h2 => exact ⟨s.chk, s.chans, s.dropRange, _, rfl, Or.inl rfl, fun ck hh => by simp_all⟩
    · next ck h2 =>
      split
      · obtain ⟨ch, d, r, e⟩ := State.abortCheck_eq
          (s.notify (.phaseChange s.tick old s.press.phase s.press.pFilt s.press.pMax s.press.holdIndex)) .phase
        exact ⟨_, ch, d, r, e, Or.inr rfl, fun _ _ _ _ _ => rfl⟩
      · next hh => exact ⟨s.chk, s.chans, s.dropRange, _, rfl, Or.inl rfl, fun ck' e1 e2 e3 e4 => by simp_all⟩

end Sys2Proof.Machine
end

