-- ==== Sys2Proof/Laws/Freeze.lean ====
section
/-!
SUPPORT. The entry to FREEZING, the cuts it makes and the taking of the offers that wait, each said once, in the terms of
claims (R48, R55, R156).
-/

namespace Sys2Proof.Machine

@[simp] theorem Channel.applyPending_ended (x : Channel) : x.applyPending.ended = x.ended := by
  unfold Channel.applyPending
  split
  · rfl
  · simp only [Channel.applyThr]; split <;> rfl

/-- The offer of a record leaves every other channel alone. -/
theorem State.offer_ch_other (s : State) (r : HitRec) {d : Chan} (h : d ≠ r.channel) : (s.offer r).ch d = s.ch d := by
  rcases s.offer_cases r with ⟨_, e⟩ | ⟨_, e⟩ <;> rw [e, State.modCh_ch_other _ _ h] <;> rfl

/-- An offer with room in the list counts the hit as ended and entered (R42, R47). -/
theorem State.offer_ch_room {s : State} {r : HitRec} (h : s.hitList.length < 512) :
    (s.offer r).ch r.channel = { s.ch r.channel with
      ended := min 4294967295 ((s.ch r.channel).ended + 1)
      entered := min 4294967295 ((s.ch r.channel).entered + 1) } := by
  rcases s.offer_cases r with ⟨_, e⟩ | ⟨h', _⟩
  · rw [e, State.modCh_ch_same]; rfl
  · omega

/-- An offer to a full list counts the hit as ended and dropped (R42, R49). -/
theorem State.offer_ch_full {s : State} {r : HitRec} (h : 512 ≤ s.hitList.length) :
    (s.offer r).ch r.channel = { s.ch r.channel with
      ended := min 4294967295 ((s.ch r.channel).ended + 1)
      dropped := min 4294967295 ((s.ch r.channel).dropped + 1) } := by
  rcases s.offer_cases r with ⟨h', _⟩ | ⟨_, e⟩
  · omega
  · rw [e, State.modCh_ch_same]; rfl

@[simp] theorem Hit.record_channel (h : Hit) (c : Chan) (g : ChanCfg) (l k : Bool) : (h.record c g l k).channel = c := rfl

@[simp] theorem State.cutRecord_channel (s : State) (c : Chan) (h : Hit) : (s.cutRecord c h).channel = c := rfl

/-- A cut offers the record that the terms of claims name (R37, log 15). -/
theorem State.cutHit_record (s : State) (c : Chan) (h : Hit) : s.cutHit c h = s.offerInTurn (s.cutRecord c h) := by
  have e : ∀ d, passed s.tick (s.ch c).frameSeen d = decide (Reached s.tick (s.ch c).frameSeen d) := fun d => by
    rw [Bool.eq_iff_iff, passed_iff, decide_eq_true_iff]
  unfold State.cutHit State.cutRecord Hit.record Hit.normalDue Hit.forcedDue Hit.endsAt
  simp only [e, Hit.normalAt, Hit.forcedAt, Hit.amplitude, Hit.energy, clampTo_eq, Config.sat16, Config.sat32]
  congr 2
  · by_cases hn : h.lastCount + (s.ch c).cfg.hdt ≤ h.arrival + (s.ch c).cfg.maxDur
    · simp [hn, Nat.not_lt.mpr hn]
    · simp [Nat.not_le.mp hn, Nat.min_eq_right (Nat.le_of_lt (Nat.not_le.mp hn))]
  · by_cases hn : h.lastCount + (s.ch c).cfg.hdt ≤ h.arrival + (s.ch c).cfg.maxDur
    · simp [hn, Nat.not_lt.mpr hn]
    · simp [hn, Nat.not_le.mp hn, Nat.min_eq_right (Nat.le_of_lt (Nat.not_le.mp hn))]

theorem State.cutCh_of_other {s : State} {c : Chan} (e : ∀ h, (s.ch c).state ≠ .hit h) : s.cutCh c = s := by
  unfold State.cutCh
  split
  · next h q => exact absurd q (e h)
  · rfl

/-- The record of a cut depends on the channel and the tick alone. -/
theorem State.cutRecord_congr {s u : State} {c : Chan} (hc : u.ch c = s.ch c) (ht : u.tick = s.tick) (h : Hit) :
    u.cutRecord c h = s.cutRecord c h := by
  unfold State.cutRecord
  rw [hc, ht]

/-- A pending threshold applied and cleared (R25). -/
theorem Channel.applyPending_eq (x : Channel) : x.applyPending = x.withPending := by
  unfold Channel.applyPending Channel.withPending
  cases hp : x.pendingThr with
  | none => cases x; simp_all
  | some v =>
    unfold Channel.applyThr
    cases hm : x.cfg.mode <;> simp

/-- In FREEZING an offer waits for the last of the cuts (R48, R55, log 34). -/
theorem State.offerInTurn_freezing {s : State} (f : s.ctl.run = .freezing) (r : HitRec) :
    s.offerInTurn r = { s with offers := insertOffer r s.offers } := by
  simp [State.offerInTurn, State.offersNow, f]

/-- In FREEZING the cut of one channel: its record waits, its pending threshold is applied (R25, R37). -/
theorem State.cutCh_hit {s : State} {c : Chan} {h : Hit} (f : s.ctl.run = .freezing) (e : (s.ch c).state = .hit h) :
    s.cutCh c =
      State.setCh { s with offers := insertOffer (s.cutRecord c h) s.offers } c { (s.ch c).withPending with state := .quiet } := by
  unfold State.cutCh
  simp only [e, State.cutHit_record, Channel.applyPending_eq, State.offerInTurn_freezing f]
  rfl

theorem allChans_nodup : allChans.Nodup := by decide

theorem mem_allChans (c : Chan) : c ∈ allChans := by revert c; decide

/-- Two states that agree in every channel and in all else are equal. -/
theorem State.eq_of_ch {s t : State} (h : ∀ c, s.ch c = t.ch c) (e : { s with chans := t.chans } = t) : s = t := by
  rw [← e]
  have : s.chans = t.chans := by
    ext1 i hi
    exact h ⟨i, hi⟩
  rw [← this]

@[simp] theorem State.withOffers_ch (s : State) (l : List HitRec) (c : Chan) : State.ch { s with offers := l } c = s.ch c := rfl

/-- The cuts of these channels in FREEZING, each named once: their hits end in QUIET, and their records wait (R37, R48).
-/
theorem State.cutAll_eq (cs : List Chan) (nd : cs.Nodup) (s : State) (f : s.ctl.run = .freezing) :
    s.cutAll cs =
      State.mapCh
        { s with
          offers := cs.foldl (fun l c => match (s.ch c).state with
            | .hit h => insertOffer (s.cutRecord c h) l
            | _ => l) s.offers }
        fun c x => match x.state with
          | .hit _ => if decide (c ∈ cs) then { x.withPending with state := .quiet } else x
          | _ => x := by
  induction cs generalizing s with
  | nil =>
    refine State.eq_of_ch (fun c => ?_) rfl
    rw [State.mapCh_ch]
    simp only [State.cutAll, List.foldl_nil, List.not_mem_nil, decide_false, Bool.false_eq_true, if_false]
    split <;> rfl
  | cons c cs ih =>
    obtain ⟨hc, nd'⟩ := List.nodup_cons.mp nd
    have hne : ∀ d ∈ cs, d ≠ c := fun d hd e => hc (e ▸ hd)
    rw [State.cutAll, List.foldl_cons]
    change State.cutAll (s.cutCh c) cs = _
    by_cases e : ∃ h, (s.ch c).state = .hit h
    · obtain ⟨h, e⟩ := e
      rw [State.cutCh_hit f e, List.foldl_cons, e]
      refine (ih nd' _ (by exact f)).trans ?_
      refine State.eq_of_ch (fun d => ?_) ?_
      · simp only [State.mapCh_ch, State.withOffers_ch]
        by_cases g : d = c
        · subst g
          simp [State.setCh_ch_same, e]
        · simp [State.setCh_ch_other _ _ g, g]
      · simp only [State.setCh_offers]
        rw [List.foldl_ext (g := fun l d => match (s.ch d).state with
          | .hit h => insertOffer (s.cutRecord d h) l
          | _ => l)]
        · rfl
        · intro l d hd
          have k : State.ch (State.setCh { s with offers := insertOffer (s.cutRecord c h) s.offers } c
            { (s.ch c).withPending with state := .quiet }) d = s.ch d := by rw [State.setCh_ch_other _ _ (hne d hd)]; rfl
          rw [k]
          split
          · rw [State.cutRecord_congr k rfl]
          · rfl
    · have e' : ∀ h, (s.ch c).state ≠ .hit h := fun h q => e ⟨h, q⟩
      rw [State.cutCh_of_other e', ih nd' _ f, List.foldl_cons]
      refine State.eq_of_ch (fun d => ?_) ?_
      · simp only [State.withOffers_ch, State.mapCh_ch]
        split
        · next k q =>
          have : d ≠ c := fun g => e' k (g ▸ q)
          simp [this]
        · rfl
      · have : (match (s.ch c).state with
          | .hit h => insertOffer (s.cutRecord c h) s.offers
          | _ => s.offers) = s.offers := by
          split
          · next k q => exact absurd q (e' k)
          · rfl
        rw [this]
        rfl

/-- The cuts of a freeze in the channels p (R37, R48, R55). -/
theorem State.cutAll_filter {s : State} (f : s.ctl.run = .freezing) (p : Chan → Bool) :
    s.cutAll (allChans.filter p) = s.cutWhere p := by
  have hp : (fun c => decide (c ∈ allChans.filter p)) = p := funext fun c => by simp [mem_allChans]
  rw [State.cutAll_eq _ (allChans_nodup.filter p) _ f]
  exact congrArg (fun q : Chan → Bool => State.mapCh _ fun c x => match x.state with
    | .hit _ => if q c then { x.withPending with state := .quiet } else x
    | _ => x) hp

theorem State.cutCh_eq {s : State} (f : s.ctl.run = .freezing) (c : Chan) :
    s.cutCh c = s.cutWhere fun b => decide (b = c) := by
  have : allChans.filter (fun b => decide (b = c)) = [c] := by revert c; decide
  rw [← State.cutAll_filter f, this]
  rfl

theorem State.lastCuts_eq (s : State) : s.lastCuts = if s.ctl.run = .freezing then s.cutWhere fun _ => true else s := by
  unfold State.lastCuts
  by_cases f : s.ctl.run = .freezing
  · rw [if_pos f, if_pos f, ← State.cutAll_filter f, List.filter_eq_self.mpr fun _ _ => rfl]
  · rw [if_neg f, if_neg f]

/-! ### The taking of the offers that wait (R47 to R49) -/

theorem State.withList_ch (s : State) (l : List Entry) (d : Option DropRange) (b : Bool) (c : Chan) :
    State.ch { s with hitList := l, dropRange := d, dropFlag := b } c = s.ch c := rfl

theorem counted_succ (k n : Nat) : counted k (min 4294967295 (n + 1)) = counted (k + 1) n := by
  unfold counted
  split
  · simp_all
  · simp; omega

/-- The list takes these offers one after another: it enters them while it has room and drops them from then on (R47 to
R49). -/
theorem State.foldl_offer (l : List HitRec) (s : State) : l.foldl State.offer s =
    State.mapCh
      { s with
        hitList := (l.take (512 - s.hitList.length)).foldl (fun l r => insertEntry ⟨r, false⟩ l) s.hitList
        dropRange := (l.drop (512 - s.hitList.length)).foldl (fun q r => some (extendDrop r.arrival q)) s.dropRange
        dropFlag := s.dropFlag || !(l.drop (512 - s.hitList.length)).isEmpty }
      fun c x => { x with
        ended := counted (recordsOf c l) x.ended
        entered := counted (recordsOf c (l.take (512 - s.hitList.length))) x.entered
        dropped := counted (recordsOf c (l.drop (512 - s.hitList.length))) x.dropped } := by
  induction l generalizing s with
  | nil =>
    refine State.eq_of_ch (fun c => ?_) ?_
    · simp [State.ch, State.mapCh, recordsOf, counted]
    · simp [State.mapCh]
  | cons r l ih =>
    rw [List.foldl_cons, ih]
    by_cases room : s.hitList.length < 512
    · obtain ⟨n, hn⟩ : ∃ n, 512 - s.hitList.length = n + 1 := ⟨511 - s.hitList.length, by omega⟩
      have e := (s.offer_cases r).resolve_right fun h => Nat.not_le.mpr room h.1
      have hn' : 512 - (s.offer r).hitList.length = n := by rw [e.2]; simp; omega
      rw [hn', hn, List.take_succ_cons, List.drop_succ_cons]
      refine State.eq_of_ch (fun c => ?_) ?_
      · simp only [State.mapCh_ch, State.withList_ch]
        by_cases g : r.channel = c
        · subst g
          rw [State.offer_ch_room room]
          simp [recordsOf, counted_succ]
        · rw [State.offer_ch_other _ _ (Ne.symm g)]
          simp [recordsOf, g]
      · rw [e.2]; rfl
    · have full : 512 ≤ s.hitList.length := Nat.not_lt.mp room
      have hn : 512 - s.hitList.length = 0 := by omega
      have e := (s.offer_cases r).resolve_left fun h => room h.1
      have hn' : 512 - (s.offer r).hitList.length = 0 := by rw [e.2]; simp; omega
      rw [hn', hn]
      simp only [List.take_zero, List.drop_zero]
      refine State.eq_of_ch (fun c => ?_) ?_
      · simp only [State.mapCh_ch, State.withList_ch]
        by_cases g : r.channel = c
        · subst g
          rw [State.offer_ch_full full]
          simp [recordsOf, counted_succ]
        · rw [State.offer_ch_other _ _ (Ne.symm g)]
          simp [recordsOf, g]
      · rw [e.2]; simp [State.mapCh]

/-- The list takes the offers that wait (R47 to R49). -/
theorem State.takeOffers_eq (s : State) : s.takeOffers = s.admitted := by
  rw [State.takeOffers, State.foldl_offer]
  rfl

/-- The list takes the offers of a freeze once no hit is left to be cut (R55, log 34). -/
theorem State.finishCuts_eq {s : State} (f : s.ctl.run = .freezing) : s.finishCuts = s.afterCuts := by
  unfold State.finishCuts State.afterCuts
  cases e : s.anyHit <;> simp [f, State.takeOffers_eq]

theorem Channel.holdsAt_isSome (x : Channel) : x.holdsAt.isSome = true ↔ ∃ h, x.state = .hit h := by
  unfold Channel.holdsAt
  cases x.state <;> simp

theorem State.anyHit_iff (s : State) : s.anyHit = true ↔ ∃ c h, (s.ch c).state = .hit h := by
  simp [State.anyHit, List.any_eq_true, Channel.holdsAt_isSome, mem_allChans]

theorem Channel.unlock_eq (x : Channel) : x.unlock = match x.state with
    | .lockout _ => { x.withPending with state := .quiet }
    | _ => x := by
  unfold Channel.unlock
  cases x.state <;> simp only [Channel.applyPending_eq]

/-- The entry to FREEZING, but for the cuts (R156). -/
theorem State.entered_eq (s : State) (why : FreezeReason) (cause : RunCause) (detail : RunDetail) :
    s.entered why cause detail = s.setFreezing why cause detail := by
  have keeps : ∀ u : State, u.chk = s.chk → u.tick = s.tick → u.dropRange = s.dropRange →
      (match s.chk.check with
        | none => u
        | some ck => State.notify
            (State.mapCh
              { u with
                chk := { s.chk with check := none }
                dropRange := if ck.startRun = .armed then closeSpan s.tick s.dropRange else s.dropRange }
              fun c x => if ck.involved[c] = true ∧ x.state = .testing then { x with state := .quiet } else x)
            (.checkResult ck.kind ck.startTick s.tick ck.startRun (.aborted .run))) = u.abortCheck .run := by
    intro u hk ht hd
    unfold State.abortCheck
    rw [hk]
    cases s.chk.check with
    | none => rfl
    | some ck =>
      simp only [State.releaseCheck, State.endSpan, Bool.and_eq_true, decide_eq_true_eq, ← hk, ← ht, ← hd]
      by_cases g : ck.startRun = .armed
      · simp only [g, if_true]
        rfl
      · simp only [g, if_false]
  have e : (s.setFreeze why).mapCh (fun _ x => x.unlock) =
      State.mapCh { s with ctl := { s.ctl with run := .freezing, freeze := some why } } fun _ x => match x.state with
        | .lockout _ => { x.withPending with state := .quiet }
        | _ => x := by
    simp only [Channel.unlock_eq, State.setFreeze]
  rw [State.setFreezing, e]
  exact keeps _ (by simp) (by simp) (by simp)

theorem State.abortCheck_none {s : State} (h : s.chk.check = none) (w : AbortReason) : s.abortCheck w = s := by
  simp only [State.abortCheck, h]

@[simp] theorem State.endSpan_ch (s : State) (ck : Check) (c : Chan) : (s.endSpan ck).ch c = s.ch c := by
  unfold State.endSpan
  split <;> rfl

/-- The channels at an abort: those involved and in TESTING are released (R148, log 30). -/
theorem State.abortCheck_ch {s : State} {ck : Check} (h : s.chk.check = some ck) (w : AbortReason) (c : Chan) :
    (s.abortCheck w).ch c =
      if ck.involved[c] = true ∧ (s.ch c).state = .testing then { s.ch c with state := .quiet } else s.ch c := by
  simp only [State.abortCheck, h, State.notify_ch, State.endSpan_ch, State.releaseCheck, State.mapCh_ch, Bool.and_eq_true,
    decide_eq_true_eq]
  rfl

/-- The drop range at an abort: a check begun in ARMED closes its span (R58). -/
theorem State.abortCheck_dropRange {s : State} {ck : Check} (h : s.chk.check = some ck) (w : AbortReason) :
    (s.abortCheck w).dropRange = if ck.startRun = .armed then closeSpan s.tick s.dropRange else s.dropRange := by
  simp only [State.abortCheck, h, State.notify, State.endSpan]
  split <;> rfl

/-- The notice of an abort (R148). -/
theorem State.abortCheck_rep {s : State} {ck : Check} (h : s.chk.check = some ck) (w : AbortReason) :
    (s.abortCheck w).rep =
      s.rep.notify s.ctl.run s.tick (.checkResult ck.kind ck.startTick s.tick ck.startRun (.aborted w)) := by
  simp only [State.abortCheck, h, State.notify, State.endSpan]
  split <;> rfl

theorem State.abortCheck_chk (s : State) (w : AbortReason) : (s.abortCheck w).chk = { s.chk with check := none } := by
  obtain ⟨_, _, _, e⟩ := s.abortCheck_eq w
  rw [e]


/-- The channels at an entry to FREEZING, but for the cuts: lockouts end, channels of the check are released (R156). -/
theorem State.entered_ch (s : State) (why : FreezeReason) (cause : RunCause) (detail : RunDetail) (c : Chan) :
    (s.entered why cause detail).ch c = match s.chk.check with
      | none => (s.ch c).unlock
      | some ck => if ck.involved[c] = true ∧ (s.ch c).unlock.state = .testing then
          { (s.ch c).unlock with state := .quiet }
        else (s.ch c).unlock := by
  rw [State.entered_eq, State.setFreezing]
  split
  · next h =>
    rw [State.abortCheck_none (by simpa [State.setFreeze] using h), State.notify_ch, State.mapCh_ch]
    rfl
  · next ck h =>
    rw [State.abortCheck_ch (ck := ck) (by simpa [State.setFreeze] using h), State.notify_ch, State.mapCh_ch]
    rfl

/-- A channel in HIT stands as it was until its cut, and no other is in HIT (R156). -/
theorem State.entered_hit (s : State) (why : FreezeReason) (cause : RunCause) (detail : RunDetail) (c : Chan) (h : Hit) :
    ((s.entered why cause detail).ch c).state = .hit h ↔ (s.ch c).state = .hit h := by
  rw [State.entered_ch]
  have u : (s.ch c).unlock.state = .hit h ↔ (s.ch c).state = .hit h := by
    unfold Channel.unlock
    split
    · next k e => simp [e]
    · rfl
  split
  · exact u
  · split
    · next g => simp only [reduceCtorEq, false_iff]; exact fun e => by rw [u.mpr e] at g; cases g.2
    · exact u

theorem State.entered_frameSeen (s : State) (why : FreezeReason) (cause : RunCause) (detail : RunDetail) (c : Chan) :
    ((s.entered why cause detail).ch c).frameSeen = (s.ch c).frameSeen := by
  have u : (s.ch c).unlock.frameSeen = (s.ch c).frameSeen := by
    rw [Channel.unlock_eq]
    split <;> rfl
  rw [State.entered_ch]
  (repeat' split) <;> exact u

/-- The entry to FREEZING (R156). -/
theorem State.enterFreezing_eq (s : State) (why : FreezeReason) (cause : RunCause) (detail : RunDetail) :
    s.enterFreezing why cause detail = s.frozen why cause detail := by
  have run : (s.setFreezing why cause detail).ctl.run = .freezing := by
    simp [State.setFreezing, State.setFreeze]
  rw [State.frozen, State.entered_eq, State.enterFreezing, State.seen, State.cutAll_filter run,
    State.finishCuts_eq (by exact run)]

end Sys2Proof.Machine
end

