-- ==== Sys2Proof/Laws/Channel.lean ====
section
/-!
SUPPORT. The channels: a check that is held, two changes of one channel as one, the offers of one sample in
channel order, and the steps taken before a frame, or at the close of a sample period, when none is due.
-/

namespace Sys2Proof.Machine

theorem State.setCh_self (s : State) (c : Chan) : s.setCh c (s.ch c) = s := by
  unfold State.setCh State.ch
  have : s.chans.set c.val s.chans[c] c.isLt = s.chans := by
    ext i hi
    simp only [Vector.getElem_set]
    split
    · next h => subst h; rfl
    · rfl
  rw [this]

theorem State.setCh_setCh (s : State) (c : Chan) (x y : Channel) : (s.setCh c x).setCh c y = s.setCh c y := by
  simp [State.setCh]

theorem State.setCh_modCh (s : State) (c : Chan) (x : Channel) (f : Channel → Channel) :
    (s.setCh c x).modCh c f = s.setCh c (f x) := by
  rw [State.modCh, State.setCh_ch_same, State.setCh_setCh]

theorem State.modCh_modCh (s : State) (c : Chan) (f g : Channel → Channel) :
    (s.modCh c f).modCh c g = s.modCh c fun x => g (f x) := State.setCh_modCh s c _ g

/-! ### Offers of one sample (R48) -/

/-! ### A check that is held (R2) -/

theorem State.held_or_moves (s : State) : s.ChecksHeld ∨ s.tick < 281474976710655 ∨ s.ctl.run = .armed := by
  unfold State.ChecksHeld
  by_cases h : s.ctl.run = .armed
  · exact .inr (.inr h)
  · rcases Nat.lt_or_ge s.tick 281474976710655 with g | g
    · exact .inr (.inl g)
    · exact .inl ⟨g, h⟩

theorem State.not_held_of_moves (s : State) (h : s.tick < 281474976710655 ∨ s.ctl.run = .armed) : ¬s.ChecksHeld :=
  fun ⟨a, b⟩ => h.elim (Nat.not_lt.mpr a) b

theorem State.checkHeld_iff (s : State) : s.checkHeld = true ↔ s.ChecksHeld := by
  rw [State.checkHeld, Bool.and_eq_true, decide_eq_true_iff, decide_eq_true_iff]
  rfl

theorem State.movingCheck_of_held {s : State} (h : s.ChecksHeld) : s.movingCheck = none :=
  if_pos (s.checkHeld_iff.mpr h)

theorem State.movingCheck_of_moves {s : State} (h : s.tick < 281474976710655 ∨ s.ctl.run = .armed) :
    s.movingCheck = s.chk.check :=
  if_neg fun g => s.not_held_of_moves h (s.checkHeld_iff.mp g)

@[simp] theorem State.movingCheck_setCh (s : State) (c : Chan) (x : Channel) :
    (s.setCh c x).movingCheck = s.movingCheck := rfl

@[simp] theorem State.movingCheck_modCh (s : State) (c : Chan) (f : Channel → Channel) :
    (s.modCh c f).movingCheck = s.movingCheck := rfl

theorem State.gatheringComplete_of_held {s : State} (h : s.ChecksHeld) : s.gatheringComplete = s := by
  rw [State.gatheringComplete, State.movingCheck_of_held h]

theorem State.pulse_of_held {s : State} (h : s.ChecksHeld) : s.pulse = s := by
  rw [State.pulse, State.movingCheck_of_held h]

theorem State.listeningWindowEnd_of_held {s : State} (h : s.ChecksHeld) : s.listeningWindowEnd = s := by
  rw [State.listeningWindowEnd, State.movingCheck_of_held h]

theorem State.sampleTesting_of_held {s : State} (h : s.ChecksHeld) (c : Chan) (mag : Nat) (count : Bool) :
    s.sampleTesting c mag count = s := by
  rw [State.sampleTesting, State.movingCheck_of_held h]

theorem State.feedPattern_of_held {s : State} (h : s.ChecksHeld) : s.feedPattern = s := by
  rw [State.feedPattern, State.movingCheck_of_held h]

theorem State.patternOutcome_of_held {s : State} (h : s.ChecksHeld) (c : Chan) : s.patternOutcome c = s := by
  rw [State.patternOutcome, State.movingCheck_of_held h]

theorem State.checkComplete_of_held {s : State} (h : s.ChecksHeld) : s.checkComplete = s := by
  rw [State.checkComplete, State.movingCheck_of_held h]

theorem State.removeFromCheck_of_held {s : State} (h : s.ChecksHeld) (c : Chan) : s.removeFromCheck c = s := by
  rw [State.removeFromCheck, State.movingCheck_of_held h]

@[simp] theorem State.removeFromCheck_ch (s : State) (c d : Chan) : (s.removeFromCheck c).ch d = s.ch d := by
  unfold State.ch
  simp

theorem Hit.normalDue_iff (h : Hit) (cfg : ChanCfg) (tick : Nat) (seen : Bool) :
    h.normalDue cfg tick seen = true ↔ Reached tick seen (h.normalAt cfg) ∧ h.normalAt cfg ≤ h.forcedAt cfg := by
  rw [Hit.normalDue, Bool.and_eq_true, passed_iff, decide_eq_true_iff]

theorem Hit.forcedDue_iff (h : Hit) (cfg : ChanCfg) (tick : Nat) (seen : Bool) :
    h.forcedDue cfg tick seen = true ↔ Reached tick seen (h.forcedAt cfg) ∧ h.forcedAt cfg < h.normalAt cfg := by
  rw [Hit.forcedDue, Bool.and_eq_true, passed_iff, decide_eq_true_iff]

theorem Channel.lossDue_iff (x : Channel) : x.lossDue = true ↔ x.lane = .good ∧ x.missingRun = 4 := by
  rw [Channel.lossDue, Bool.and_eq_true, decide_eq_true_iff, decide_eq_true_iff]; rfl

/-- The test of an offer's turn, in the terms of claims (R48, log 34). -/
theorem State.offersNow_iff (s : State) (c : Chan) : s.offersNow c = true ↔ s.InTurn c := by
  have e : s.lowerOffers c = (s.rivals c).length := by
    unfold State.lowerOffers State.rivals Channel.mayOffer
    rfl
  have z : s.lowerOffers c = 0 ↔ s.rivals c = [] := by rw [e, List.length_eq_zero_iff]
  rw [State.offersNow, State.InTurn, Bool.and_eq_true, Bool.or_eq_true, decide_eq_true_iff, decide_eq_true_iff,
    decide_eq_true_iff, z, e]
  rfl

/-- An offer, in the terms of claims: the record enters or is dropped, with the counters of its channel, or waits for
its turn (R47 to R49, log 34). -/
theorem State.offerInTurn_eq (s : State) (r : HitRec) : s.offerInTurn r = s.offered r (s.ch r.channel) := by
  unfold State.offered
  rcases s.offerInTurn_cases r with ⟨n, e⟩ | ⟨n, e⟩
  · rw [if_pos ((s.offersNow_iff _).mp n), e]
    rcases s.offer_cases r with ⟨h, e⟩ | ⟨h, e⟩
    · rw [if_pos h, e]
      rfl
    · rw [if_neg (Nat.not_lt.mpr h), e]
      cases s.dropRange <;> rfl
  · have n' : ¬s.InTurn r.channel := fun h => by simp [(s.offersNow_iff _).mpr h] at n
    rw [if_neg n', e]
    exact (State.setCh_self { s with offers := insertOffer r s.offers } r.channel).symm

/-- An offer changes its own channel in the counters alone: any other change of it stands beside theirs. -/
theorem State.offered_modCh (s : State) (r : HitRec) (x : Channel) (f : Channel → Channel)
    (h : ∀ a b d, f { x with ended := a, entered := b, dropped := d } =
      { f x with ended := a, entered := b, dropped := d }) :
    (s.offered r x).modCh r.channel f = s.offered r (f x) := by
  have he : (f x).ended = x.ended := (congrArg Channel.ended (h x.ended x.entered x.dropped) :)
  have hn : (f x).entered = x.entered := (congrArg Channel.entered (h x.ended x.entered x.dropped) :)
  have hd : (f x).dropped = x.dropped := (congrArg Channel.dropped (h x.ended x.entered x.dropped) :)
  unfold State.offered
  split
  · split
    · rw [State.setCh_modCh, he, hn]
      congr 1
      refine (h _ _ x.dropped).trans ?_
      rw [← hd]
    · rw [State.setCh_modCh, he, hd]
      congr 1
      refine (h _ x.entered _).trans ?_
      rw [← hn]
  · rw [State.setCh_modCh]

/-- Whether an offer is in its turn does not rest on its own channel (R48). -/
theorem State.inTurn_setCh (s : State) (c : Chan) (x : Channel) : (s.setCh c x).InTurn c ↔ s.InTurn c := by
  have : (s.setCh c x).rivals c = s.rivals c := by
    unfold State.rivals
    refine List.filter_congr fun b _ => ?_
    by_cases g : b = c
    · simp [g]
    · rw [State.setCh_ch_other _ _ g, State.setCh_offers]
  rw [State.InTurn, this]
  rfl

/-- An offer replaces its channel. -/
theorem State.offered_setCh (s : State) (r : HitRec) (x y : Channel) :
    (s.setCh r.channel x).offered r y = s.offered r y := by
  have e : ∀ u v : State, v = u.setCh r.channel x → ∀ z, v.setCh r.channel z = u.setCh r.channel z := fun u v h z => by
    rw [h, State.setCh_setCh]
  unfold State.offered
  by_cases g : s.InTurn r.channel
  · rw [if_pos g, if_pos ((s.inTurn_setCh _ x).mpr g)]
    by_cases l : s.hitList.length < 512
    · rw [if_pos l, if_pos (show (s.setCh r.channel x).hitList.length < 512 from l)]
      exact e { s with hitList := insertEntry ⟨r, false⟩ s.hitList } _ rfl _
    · rw [if_neg l, if_neg (show ¬(s.setCh r.channel x).hitList.length < 512 from l)]
      exact e { s with dropFlag := true, dropRange := some _ } _ rfl _
  · rw [if_neg g, if_neg fun h => g ((s.inTurn_setCh _ x).mp h)]
    exact e { s with offers := insertOffer r s.offers } _ rfl _

/-- An offer stands beside a change of the check unit. -/
theorem State.offered_chk (s : State) (r : HitRec) (x : Channel) (k : CheckUnit) :
    { s.offered r x with chk := k } = State.offered { s with chk := k } r x := by
  unfold State.offered
  by_cases g : s.InTurn r.channel
  · rw [if_pos g, if_pos (show State.InTurn { s with chk := k } _ from g)]
    by_cases l : s.hitList.length < 512
    · rw [if_pos l, if_pos (show ({ s with chk := k } : State).hitList.length < 512 from l)]
      rfl
    · rw [if_neg l, if_neg (show ¬({ s with chk := k } : State).hitList.length < 512 from l)]
      rfl
  · rw [if_neg g, if_neg (show ¬State.InTurn { s with chk := k } _ from g)]
    rfl

/-- An offer changes its channel's counters alone. -/
theorem State.offered_ch (s : State) (r : HitRec) (x : Channel) :
    ∃ a b d, (s.offered r x).ch r.channel = { x with ended := a, entered := b, dropped := d } := by
  unfold State.offered
  (repeat' split) <;> exact ⟨_, _, _, State.setCh_ch_same _ _ _⟩

@[simp] theorem State.offered_tick (s : State) (r : HitRec) (x : Channel) : (s.offered r x).tick = s.tick := by
  unfold State.offered; (repeat' split) <;> rfl

theorem State.offered_keepsCtl (s : State) (r : HitRec) (x : Channel) : (s.offered r x).ctl = s.ctl := by
  unfold State.offered; (repeat' split) <;> rfl

theorem State.offered_keepsChk (s : State) (r : HitRec) (x : Channel) : (s.offered r x).chk = s.chk := by
  unfold State.offered; (repeat' split) <;> rfl

/-- The end of a hit, in the terms of claims (R38, R39). -/
theorem State.endHit_eq (s : State) (c : Chan) (h : Hit) (d : Nat) (long : Bool) :
    s.endHit c h d long = s.endedAt c h d long := by
  have rec_eq : h.record c (s.ch c).cfg long false =
      ⟨c, h.arrival, min 65535 (h.peakTick - h.arrival), h.lastCount - h.arrival, min 65535 h.counts,
        min 127 (ampCode h.peak + (s.ch c).cfg.refOffset), min 4294967295 (h.energySum / 65536), h.stamp, h.clipped,
        long, false⟩ := by
    simp [Hit.record, Hit.amplitude, Hit.energy, clampTo_eq, Config.sat16, Config.sat32]
  have claimed : ∀ r x, (s.offered r x).claimed c = s.claimed c := fun r x => by
    rw [State.claimed, State.offered_keepsChk]
    rfl
  unfold State.endHit State.endedAt State.toQuiet
  rw [← rec_eq]
  simp only [State.offerInTurn_eq, Hit.record_channel, claimed]
  by_cases z : (s.ch c).cfg.hlt = 0 <;> simp only [z, if_true, if_false]
  · exact (State.offered_modCh s _ _ _ fun a b d => by simp [Channel.applyPending_eq, Channel.withPending]).trans
      (by simp [Channel.applyPending_eq])
  · exact State.offered_modCh s _ _ _ fun a b d => rfl

/-- The removal of a channel from the check, in the terms of claims; a check that is held keeps it (R2, R138). -/
theorem State.removeFromCheck_eq (s : State) (c : Chan) : s.removeFromCheck c = { s with chk := s.checkWithout c } := by
  unfold State.removeFromCheck State.checkWithout
  rcases s.held_or_moves with h | h
  · have n : ¬(s.tick < 281474976710655 ∨ s.ctl.run = .armed) := fun g => s.not_held_of_moves g h
    rw [State.movingCheck_of_held h]
    cases s.chk.check <;> simp only [n, and_false, if_false]
  · rw [State.movingCheck_of_moves h]
    unfold Check.owns Check.remove
    cases e : s.chk.check with
    | none => rfl
    | some ck =>
      simp only [Bool.and_eq_true, Bool.not_eq_true', h, and_true]
      split <;> rfl

/-- A lost lane's channel enters FAULT, after its lane has become LOST (R19). -/
theorem State.enterFault_eq (s u : State) (c : Chan) (x : Channel)
    (hx : u.ch c = { x with lane := .lost, goodRun := 0 })
    (ht : u.tick = s.tick) (hf : x.faults = (s.ch c).faults) :
    u.enterFault c = State.notify (u.setCh c x.faulted) (.faultLost s.tick c (min 255 ((s.ch c).faults + 1))) := by
  unfold State.enterFault State.modCh
  rw [hx, ht, ← hf]
  simp [Channel.applyPending_eq, Channel.withPending, Channel.faulted, satAdd_eq, Config.sat8]

/-- The loss of the lane of an enabled channel with no hit in progress (R19, R138). -/
theorem State.loseLane_idle {s : State} {c : Chan} (h : ∀ k, (s.ch c).state ≠ .hit k) (on : (s.ch c).state ≠ .off) :
    s.loseLane c = State.notify (State.setCh { s with chk := s.checkWithout c } c (s.ch c).faulted)
      (.faultLost s.tick c (min 255 ((s.ch c).faults + 1))) := by
  have e : s.loseLane c =
      ((s.modCh c fun x => { x with lane := .lost, goodRun := 0 }).removeFromCheck c).enterFault c := by
    unfold State.loseLane
    cases g : (s.ch c).state <;> first | rfl | exact absurd g on | exact absurd g (h _)
  rw [e, State.enterFault_eq s _ c (s.ch c) (by simp) (by simp) rfl, State.removeFromCheck_eq]
  exact congrArg (State.notify · _) (State.setCh_setCh { s with chk := s.checkWithout c } c _ _)

/-- An offer stands beside the removal of its channel from the check (R138). -/
theorem State.offered_removeFromCheck (s : State) (r : HitRec) (x : Channel) (c : Chan) :
    (s.offered r x).removeFromCheck c = State.offered { s with chk := s.checkWithout c } r x := by
  have e : (s.offered r x).checkWithout c = s.checkWithout c := by
    unfold State.checkWithout
    rw [State.offered_keepsChk, State.offered_tick, State.offered_keepsCtl]
  rw [State.removeFromCheck_eq, e, State.offered_chk]

/-- An offer stands beside its channel's entry into FAULT (R19). -/
theorem State.offered_enterFault (s : State) (r : HitRec) (x : Channel) :
    (s.offered r x).enterFault r.channel = State.notify
      (s.offered r { x.withPending with
        state := .fault, faults := min 255 (x.faults + 1), faultChanged := true, leftCheck := true })
      (.faultLost s.tick r.channel (min 255 (x.faults + 1))) := by
  obtain ⟨a, b, d, e⟩ := s.offered_ch r x
  unfold State.enterFault
  rw [State.offered_modCh s r x _ fun a b d => by simp [Channel.applyPending_eq, Channel.withPending], State.offered_tick,
    e]
  simp only [Channel.applyPending_eq, satAdd_eq, Config.sat8]

/-- The loss of the lane of a channel in HIT (R19, R37). -/
theorem State.loseLane_hit {s : State} {c : Chan} {h : Hit} (e : (s.ch c).state = .hit h) :
    s.loseLane c = s.lostInHit c h := by
  have r : (s.modCh c fun x => { x with lane := .lost, goodRun := 0 }).cutRecord c h = s.cutRecord c h := by
    simp [State.cutRecord]
  have u : ∀ (k : CheckUnit) (x y : Channel), State.offered { s.setCh c x with chk := k } (s.cutRecord c h) y =
      State.offered { s with chk := k } (s.cutRecord c h) y := fun k x y =>
    State.offered_setCh { s with chk := k } (s.cutRecord c h) x y
  have w : ∀ x, (s.setCh c x).checkWithout c = s.checkWithout c := fun _ => rfl
  unfold State.loseLane State.lostInHit
  simp only [e]
  rw [State.cutHit_record, r, State.offerInTurn_eq, State.offered_removeFromCheck, State.modCh, w, u,
    State.cutRecord_channel, State.setCh_ch_same]
  exact (State.offered_enterFault { s with chk := s.checkWithout c } (s.cutRecord c h) _).trans
    (by simp [Channel.faulted, Channel.withPending])

/-! ### Steps that are not due -/

/-- Before a frame of a channel nothing of which is due, no step is taken. -/
theorem State.catchUp_of_nothingDue {s : State} {c : Chan} (h : s.NothingDue c) : s.catchUp c = s := by
  have e1 : s.noiseBlockEnd c = s := by
    unfold State.noiseBlockEnd
    rw [if_neg]
    have := h.block
    simp only [Config.blockLen]
    omega
  have e2 : s.settlingComplete c = s := by
    unfold State.settlingComplete
    rw [if_neg]
    simp [h.settle]
  have e3 : s.hitEnd c = s := by
    unfold State.hitEnd
    split
    · next k e =>
      rw [if_neg]
      intro hc
      have := (Hit.normalDue_iff _ _ _ _).mp (Bool.and_eq_true_iff.mp hc).1
      refine h.hit k e ?_
      change Reached _ _ (min (k.normalAt _) (k.forcedAt _))
      rw [Nat.min_eq_left this.2]
      exact this.1
    · rfl
  have e4 : s.forcedEnd c = s := by
    unfold State.forcedEnd
    split
    · next k e =>
      rw [if_neg]
      intro hc
      have := (Hit.forcedDue_iff _ _ _ _).mp (Bool.and_eq_true_iff.mp hc).1
      refine h.hit k e ?_
      change Reached _ _ (min (k.normalAt _) (k.forcedAt _))
      rw [Nat.min_eq_right (Nat.le_of_lt this.2)]
      exact this.1
    · rfl
  have e5 : s.lockoutEnd c = s := by
    unfold State.lockoutEnd
    split
    · next till e =>
      rw [if_neg]
      exact fun hc => h.lockout till e ((passed_iff _ _ _).mp hc)
    · rfl
  have e6 : s.laneLost c = s := by
    unfold State.laneLost
    rw [if_neg]
    intro hc
    obtain ⟨a, b⟩ := Bool.and_eq_true_iff.mp hc
    have := h.good (of_decide_eq_true a)
    replace b := of_decide_eq_true b
    simp only [Config.lossRun] at b
    omega
  have e7 : s.laneRecovered c = s := by
    unfold State.laneRecovered
    rw [if_neg]
    rintro ⟨a, b⟩
    have := h.lost a
    simp only [Config.recoverRun] at b
    omega
  unfold State.catchUp
  rw [e1, e2, e3, e4, e5, e6, e7]

/-! ### The close of a sample period (R48, R55) -/

/-- The close of a sample period, in the terms of claims: the cuts, the steps due, the offers that wait (log 34). -/
theorem State.closeSample_eq (s : State) :
    s.closeSample = (allChans.foldl (fun u c => u.catchUp c) s.sampled).admitted := by
  have run : s.allSeen.ctl.run = s.ctl.run := rfl
  rw [State.closeSample, State.takeOffers_eq, State.lastCuts_eq, State.sampled, run]
  rfl

/-- Where no step is due and no offer waits, the close of a sample period only ends the wait for its samples. -/
theorem State.closeSample_of_nothing {s : State} (h : s.NothingToClose) : s.closeSample = s.allSeen := by
  have e : s.sampled = s.allSeen := by
    unfold State.sampled
    split
    · next f =>
      rw [← State.cutAll_filter (by exact f)]
      have : ∀ l : List Chan, s.allSeen.cutAll l = s.allSeen := fun l => by
        induction l with
        | nil => rfl
        | cons c l ih =>
          rw [State.cutAll, List.foldl_cons, State.cutCh_of_other fun k => by simpa [State.allSeen] using h.cuts f c k]
          exact ih
      exact this _
    · rfl
  have keep : ∀ l : List Chan, l.foldl (fun u c => u.catchUp c) s.allSeen = s.allSeen := fun l => by
    induction l with
    | nil => rfl
    | cons c l ih => rw [List.foldl_cons, State.catchUp_of_nothingDue (e ▸ h.due c)]; exact ih
  rw [State.closeSample_eq, e, keep, ← State.takeOffers_eq, State.takeOffers]
  have : s.allSeen.offers = [] := h.offers
  rw [this, List.foldl_nil]
  rw [← this]

end Sys2Proof.Machine
end

