-- ==== Sys2Proof/WellFormed.lean ====
section
/-!
DEFINITION. Which commands are well formed. Channels, samples, codes and levels are typed, so the one thing a
command can get wrong is a FRAME_RECEIVED that delivers no byte at all.
-/

namespace Sys2Proof

/-- A FRAME_RECEIVED delivers at least one byte (R169); every other command is well formed by its types. -/
def Instr.wellFormed : Instr → Bool
  | .frameReceived bytes => !bytes.isEmpty
  | .tick => true
  | .timeLimit => true
  | .pressurePeriod => true
  | .conversionComplete _ => true
  | .laneSample _ _ => true
  | .missingFrame _ => true
  | .peakFixed _ => true
  | .hitEnd _ => true
  | .forcedEnd _ => true
  | .lockoutEnd _ => true
  | .laneLost _ => true
  | .laneRecovered _ => true
  | .settlingComplete _ => true
  | .noiseBlockEnd _ => true
  | .handOver => true
  | .closeByHorizon => true
  | .locationStart => true
  | .locationEnd => true
  | .drainComplete => true
  | .gatheringComplete => true
  | .pulse => true
  | .listeningWindowEnd => true
  | .checkComplete => true
  | .patternOutcome _ => true
  | .framingError => true
  | .truncated => true
  | .lineBreak => true
  | .lineBreakEnd => true
  | .hrdyAsserted _ => true
  | .frameSent => true
  | .ageLimit => true
  | .summaryTimer => true
  | .fullReset => true
  | .fullResetEnd _ => true
  | .identify => true
  | .status => true
  | .resetRun => true
  | .channelSet => true
  | .channelGet => true
  | .pressureSet => true
  | .geometrySet => true
  | .sensorPlace => true
  | .sensorUnplace => true
  | .windowSet => true
  | .zoneSet => true
  | .associationSet => true
  | .clusterSet => true
  | .ruptureSet => true
  | .reportSet => true
  | .arm => true
  | .armResume => true
  | .stop => true
  | .alarmClear => true
  | .mapClear => true
  | .mapRead => true
  | .zoneRead => true
  | .checkStartShort => true
  | .checkStartLong => true
  | .checkStartPattern => true
  | .checkAbort => true
  | .patternLoad => true
  | .baselineRead => true
  | .baselineReadLatest => true
  | .unknownKind => true

end Sys2Proof
end

