-- ==== Sys2Proof/Laws/PerInstr.lean ====
section
/-! SUPPORT. Per-instruction laws: one lemma per command. The family EmptyFrameAloneIsIllFormed says of a command as
syntax that it is well formed unless it is a FRAME_RECEIVED that delivers no byte. -/

namespace Sys2Proof.Laws

/-- A command is well formed, or it is a FRAME_RECEIVED without a byte (R169). -/
def EmptyFrameAloneIsIllFormed.Statement (i : Instr) : Prop := i.wellFormed = true ∨ i = .frameReceived []

theorem EmptyFrameAloneIsIllFormed.tick : EmptyFrameAloneIsIllFormed.Statement .tick := Or.inl rfl

theorem EmptyFrameAloneIsIllFormed.timeLimit : EmptyFrameAloneIsIllFormed.Statement .timeLimit := Or.inl rfl

theorem EmptyFrameAloneIsIllFormed.pressurePeriod : EmptyFrameAloneIsIllFormed.Statement .pressurePeriod := Or.inl rfl

theorem EmptyFrameAloneIsIllFormed.conversionComplete (code : Code) :
    EmptyFrameAloneIsIllFormed.Statement (.conversionComplete code) := Or.inl rfl

theorem EmptyFrameAloneIsIllFormed.laneSample (c : Chan) (sample : Sample) :
    EmptyFrameAloneIsIllFormed.Statement (.laneSample c sample) := Or.inl rfl

theorem EmptyFrameAloneIsIllFormed.missingFrame (c : Chan) :
    EmptyFrameAloneIsIllFormed.Statement (.missingFrame c) := Or.inl rfl

theorem EmptyFrameAloneIsIllFormed.peakFixed (c : Chan) :
    EmptyFrameAloneIsIllFormed.Statement (.peakFixed c) := Or.inl rfl

theorem EmptyFrameAloneIsIllFormed.hitEnd (c : Chan) : EmptyFrameAloneIsIllFormed.Statement (.hitEnd c) := Or.inl rfl

theorem EmptyFrameAloneIsIllFormed.forcedEnd (c : Chan) :
    EmptyFrameAloneIsIllFormed.Statement (.forcedEnd c) := Or.inl rfl

theorem EmptyFrameAloneIsIllFormed.lockoutEnd (c : Chan) :
    EmptyFrameAloneIsIllFormed.Statement (.lockoutEnd c) := Or.inl rfl

theorem EmptyFrameAloneIsIllFormed.laneLost (c : Chan) :
    EmptyFrameAloneIsIllFormed.Statement (.laneLost c) := Or.inl rfl

theorem EmptyFrameAloneIsIllFormed.laneRecovered (c : Chan) :
    EmptyFrameAloneIsIllFormed.Statement (.laneRecovered c) := Or.inl rfl

theorem EmptyFrameAloneIsIllFormed.settlingComplete (c : Chan) :
    EmptyFrameAloneIsIllFormed.Statement (.settlingComplete c) := Or.inl rfl

theorem EmptyFrameAloneIsIllFormed.noiseBlockEnd (c : Chan) :
    EmptyFrameAloneIsIllFormed.Statement (.noiseBlockEnd c) := Or.inl rfl

theorem EmptyFrameAloneIsIllFormed.handOver : EmptyFrameAloneIsIllFormed.Statement .handOver := Or.inl rfl

theorem EmptyFrameAloneIsIllFormed.closeByHorizon : EmptyFrameAloneIsIllFormed.Statement .closeByHorizon := Or.inl rfl

theorem EmptyFrameAloneIsIllFormed.locationStart : EmptyFrameAloneIsIllFormed.Statement .locationStart := Or.inl rfl

theorem EmptyFrameAloneIsIllFormed.locationEnd : EmptyFrameAloneIsIllFormed.Statement .locationEnd := Or.inl rfl

theorem EmptyFrameAloneIsIllFormed.drainComplete : EmptyFrameAloneIsIllFormed.Statement .drainComplete := Or.inl rfl

theorem EmptyFrameAloneIsIllFormed.gatheringComplete :
    EmptyFrameAloneIsIllFormed.Statement .gatheringComplete := Or.inl rfl

theorem EmptyFrameAloneIsIllFormed.pulse : EmptyFrameAloneIsIllFormed.Statement .pulse := Or.inl rfl

theorem EmptyFrameAloneIsIllFormed.listeningWindowEnd :
    EmptyFrameAloneIsIllFormed.Statement .listeningWindowEnd := Or.inl rfl

theorem EmptyFrameAloneIsIllFormed.checkComplete : EmptyFrameAloneIsIllFormed.Statement .checkComplete := Or.inl rfl

theorem EmptyFrameAloneIsIllFormed.patternOutcome (c : Chan) :
    EmptyFrameAloneIsIllFormed.Statement (.patternOutcome c) := Or.inl rfl

theorem EmptyFrameAloneIsIllFormed.frameReceived (bytes : List Byte) : EmptyFrameAloneIsIllFormed.Statement (.frameReceived bytes) := by
  cases bytes with
  | nil => exact Or.inr rfl
  | cons b bs => exact Or.inl rfl

theorem EmptyFrameAloneIsIllFormed.framingError : EmptyFrameAloneIsIllFormed.Statement .framingError := Or.inl rfl

theorem EmptyFrameAloneIsIllFormed.truncated : EmptyFrameAloneIsIllFormed.Statement .truncated := Or.inl rfl

theorem EmptyFrameAloneIsIllFormed.lineBreak : EmptyFrameAloneIsIllFormed.Statement .lineBreak := Or.inl rfl

theorem EmptyFrameAloneIsIllFormed.lineBreakEnd : EmptyFrameAloneIsIllFormed.Statement .lineBreakEnd := Or.inl rfl

theorem EmptyFrameAloneIsIllFormed.hrdyAsserted (level : Bool) :
    EmptyFrameAloneIsIllFormed.Statement (.hrdyAsserted level) := Or.inl rfl

theorem EmptyFrameAloneIsIllFormed.frameSent : EmptyFrameAloneIsIllFormed.Statement .frameSent := Or.inl rfl

theorem EmptyFrameAloneIsIllFormed.ageLimit : EmptyFrameAloneIsIllFormed.Statement .ageLimit := Or.inl rfl

theorem EmptyFrameAloneIsIllFormed.summaryTimer : EmptyFrameAloneIsIllFormed.Statement .summaryTimer := Or.inl rfl

theorem EmptyFrameAloneIsIllFormed.fullReset : EmptyFrameAloneIsIllFormed.Statement .fullReset := Or.inl rfl

theorem EmptyFrameAloneIsIllFormed.fullResetEnd (baud : BitVec 2) :
    EmptyFrameAloneIsIllFormed.Statement (.fullResetEnd baud) := Or.inl rfl

theorem EmptyFrameAloneIsIllFormed.identify : EmptyFrameAloneIsIllFormed.Statement .identify := Or.inl rfl

theorem EmptyFrameAloneIsIllFormed.status : EmptyFrameAloneIsIllFormed.Statement .status := Or.inl rfl

theorem EmptyFrameAloneIsIllFormed.resetRun : EmptyFrameAloneIsIllFormed.Statement .resetRun := Or.inl rfl

theorem EmptyFrameAloneIsIllFormed.channelSet : EmptyFrameAloneIsIllFormed.Statement .channelSet := Or.inl rfl

theorem EmptyFrameAloneIsIllFormed.channelGet : EmptyFrameAloneIsIllFormed.Statement .channelGet := Or.inl rfl

theorem EmptyFrameAloneIsIllFormed.pressureSet : EmptyFrameAloneIsIllFormed.Statement .pressureSet := Or.inl rfl

theorem EmptyFrameAloneIsIllFormed.geometrySet : EmptyFrameAloneIsIllFormed.Statement .geometrySet := Or.inl rfl

theorem EmptyFrameAloneIsIllFormed.sensorPlace : EmptyFrameAloneIsIllFormed.Statement .sensorPlace := Or.inl rfl

theorem EmptyFrameAloneIsIllFormed.sensorUnplace : EmptyFrameAloneIsIllFormed.Statement .sensorUnplace := Or.inl rfl

theorem EmptyFrameAloneIsIllFormed.windowSet : EmptyFrameAloneIsIllFormed.Statement .windowSet := Or.inl rfl

theorem EmptyFrameAloneIsIllFormed.zoneSet : EmptyFrameAloneIsIllFormed.Statement .zoneSet := Or.inl rfl

theorem EmptyFrameAloneIsIllFormed.associationSet : EmptyFrameAloneIsIllFormed.Statement .associationSet := Or.inl rfl

theorem EmptyFrameAloneIsIllFormed.clusterSet : EmptyFrameAloneIsIllFormed.Statement .clusterSet := Or.inl rfl

theorem EmptyFrameAloneIsIllFormed.ruptureSet : EmptyFrameAloneIsIllFormed.Statement .ruptureSet := Or.inl rfl

theorem EmptyFrameAloneIsIllFormed.reportSet : EmptyFrameAloneIsIllFormed.Statement .reportSet := Or.inl rfl

theorem EmptyFrameAloneIsIllFormed.arm : EmptyFrameAloneIsIllFormed.Statement .arm := Or.inl rfl

theorem EmptyFrameAloneIsIllFormed.armResume : EmptyFrameAloneIsIllFormed.Statement .armResume := Or.inl rfl

theorem EmptyFrameAloneIsIllFormed.stop : EmptyFrameAloneIsIllFormed.Statement .stop := Or.inl rfl

theorem EmptyFrameAloneIsIllFormed.alarmClear : EmptyFrameAloneIsIllFormed.Statement .alarmClear := Or.inl rfl

theorem EmptyFrameAloneIsIllFormed.mapClear : EmptyFrameAloneIsIllFormed.Statement .mapClear := Or.inl rfl

theorem EmptyFrameAloneIsIllFormed.mapRead : EmptyFrameAloneIsIllFormed.Statement .mapRead := Or.inl rfl

theorem EmptyFrameAloneIsIllFormed.zoneRead : EmptyFrameAloneIsIllFormed.Statement .zoneRead := Or.inl rfl

theorem EmptyFrameAloneIsIllFormed.checkStartShort :
    EmptyFrameAloneIsIllFormed.Statement .checkStartShort := Or.inl rfl

theorem EmptyFrameAloneIsIllFormed.checkStartLong : EmptyFrameAloneIsIllFormed.Statement .checkStartLong := Or.inl rfl

theorem EmptyFrameAloneIsIllFormed.checkStartPattern :
    EmptyFrameAloneIsIllFormed.Statement .checkStartPattern := Or.inl rfl

theorem EmptyFrameAloneIsIllFormed.checkAbort : EmptyFrameAloneIsIllFormed.Statement .checkAbort := Or.inl rfl

theorem EmptyFrameAloneIsIllFormed.patternLoad : EmptyFrameAloneIsIllFormed.Statement .patternLoad := Or.inl rfl

theorem EmptyFrameAloneIsIllFormed.baselineRead : EmptyFrameAloneIsIllFormed.Statement .baselineRead := Or.inl rfl

theorem EmptyFrameAloneIsIllFormed.baselineReadLatest :
    EmptyFrameAloneIsIllFormed.Statement .baselineReadLatest := Or.inl rfl

theorem EmptyFrameAloneIsIllFormed.unknownKind : EmptyFrameAloneIsIllFormed.Statement .unknownKind := Or.inl rfl

end Sys2Proof.Laws
end

