-- ==== Sys2Proof/Tests/Slice0.lean ====
section
/-!
SUPPORT. The tests of the model: the smoke test of well-formedness, the worked figures of spec/ one step at a time,
and for every statement of Certificates/Slice0/Obligations.lean with hypotheses a witness that meets them.
-/

namespace Sys2Proof.Tests

-- One test after another: all of them at once take the compile of the package close to its memory limit.
set_option Elab.async false

open Sys2Proof Sys2Proof.Machine

/-! ### Helpers -/

/-- What a command leaves, seen through f. -/
def got {α : Type} (f : State → α) : Host.Outcome State Fault Refusal → Option α
  | .next s => some (f s)
  | _ => none

/-- Reset, with this frame READY. -/
def asks (kind : Byte) (payload : List Byte) : State :=
  { State.reset with link := { Link.reset with ready := [⟨kind, 7#8, payload⟩] } }

/-- The result and the data of the reply in the slot. -/
def answered (s : State) : Option (Result × List Byte) := s.rep.reply.map fun r => (r.result, r.data)

/-- The state with its run state set. -/
def inRun (s : State) (run : RunState) : State := { s with ctl := { s.ctl with run := run } }

/-- A stamp with nothing marked. -/
def plainStamp : Stamp := ⟨0, .ramp, 0, false, false⟩

/-- A hit record of a channel with this arrival. -/
def recAt (arrival : Nat) (c : Chan) : HitRec := ⟨c, arrival, 0, 0, 1, 40, 0, plainStamp, false, false, false⟩

/-! ### Well-formed commands and the decoder -/

theorem test_no_bytes_is_ill_formed : (Instr.frameReceived []).wellFormed = false := by decide

theorem test_one_byte_is_well_formed : (Instr.frameReceived [0xC3#8]).wellFormed = true := by decide

/-- No row of the table gives bits, so no word spells a command. -/
theorem test_no_word_is_a_command : decodeTableWord 8 1 = none := by decide

theorem test_step_takes_the_front :
    got (fun s => (s.tick, s.pending)) (step { State.reset with pending := [.tick, .status] }) = some (1, [.status]) := by
  decide +kernel

theorem test_step_idles : got (·.tick) (step State.reset) = some 0 := by decide

/-! ### Arithmetic (00_scope.md) -/

theorem test_codes_of_magnitudes : (ampCode 1000, ampCode 999, ampCode 32768, ampCode 0) = (60, 59, 90, 0) := by decide

theorem test_roots : isqrt 5000 = 70 ∧ isqrt 125000 = 353 ∧ isqrt 45000 = 212 ∧ isqrt 326041 = 571 :=
  ⟨rfl, rfl, rfl, rfl⟩

theorem test_crc_check_value :
    crc16 [0x31#8, 0x32#8, 0x33#8, 0x34#8, 0x35#8, 0x36#8, 0x37#8, 0x38#8, 0x39#8] = 0x29B1#16 := by decide +kernel

/-! ### Pressure (01) -/

/-- Z = 100, S = 100000 (01, 1.2, worked figures). -/
def scaled : Pressure := { Pressure.reset with zero := 100, flag := .valid }

theorem test_scaling : (scaled.scale 2048, scaled.scale 100, scaled.scale 4095) = (47558, 0, 97534) := by decide

theorem test_filter_drops_the_oldest :
    joinHistory [47558, 47600, 47520, 47610] 47700 = [47600, 47520, 47610, 47700] ∧
    meanOf [47558, 47600, 47520, 47610] = 47572 ∧ meanOf [47558, 47600] = 47579 ∧
    meanOf [47558, 47600, 47520] = 47559 := by decide

/-- After step 4 of the phase sequence (01, 1.4), H = 3. -/
def afterStep4 : Pressure :=
  { Pressure.reset with holdCount := 3, pFilt := 10480, pPrev := 10480, pMax := 10480, pRef := 10400, stable := 2 }

theorem test_step5_holds :
    ((afterStep4.compute 10470).phase, (afterStep4.compute 10470).holdIndex, (afterStep4.compute 10470).stable)
      = (.hold, 1, 3) := by decide

/-- After step 7 of that sequence. -/
def afterStep7 : Pressure :=
  { afterStep4 with pFilt := 10300, pPrev := 10300, stable := 5, phase := .hold, holdIndex := 1, spanOpen := true }

theorem test_step8_unloads :
    ((afterStep7.compute 9800).phase, (afterStep7.compute 9800).pRef, (afterStep7.compute 9800).spanOpen)
      = (.unload, 9800, true) := by decide

theorem test_step12_ramps_and_closes :
    (({ afterStep7 with pPrev := 9900, pRef := 9900, stable := 0, phase := .reload }.compute 10390).phase,
      ({ afterStep7 with pPrev := 9900, pRef := 9900, stable := 0, phase := .reload }.compute 10390).spanOpen)
      = (.ramp, false) := by decide

/-- The monitor of 01, 1.7 before completion a, with a conversion due. -/
def lossRun : State :=
  { State.reset with
    press := { scaled with
      periodTimer := 25, history := [47558, 47600, 47520, 47610], pFilt := 47572, pPrev := 47572, pMax := 47610 } }

theorem test_loss_a : got (·.press.pFilt) (exec (.conversionComplete 2050#12) lossRun) = some 47584 := by decide

theorem test_loss_b :
    got (fun s => (s.press.flag, s.press.flagChanged, s.press.pFilt)) (exec (.conversionComplete 0#12) lossRun)
      = some (.under, true, 47572) := by decide

theorem test_loss_d :
    got (fun s => (s.press.flag, s.press.history))
      (exec (.conversionComplete 2040#12) { lossRun with press := { lossRun.press with flag := .under } })
      = some (.valid, [47363]) := by decide

theorem test_onset_ratio :
    ({ State.reset with press := { afterStep7 with onsetCount := 2, spanCount := 1 } }.countOnset 3 50
      ⟨9500, .unload, 1, true, false⟩).press.onsetRatio = some 906 := by decide

/-! ### Channels (02) -/

/-- The hit of the worked sequence of 02, 2.4 after tick 102. -/
def workedHit : Hit := ⟨100, plainStamp, 100, 1, 150, 101, false, 43300, 14400, false⟩

/-- That channel: threshold 40, offset 10, PDT 3, HDT 5, HLT 4. -/
def workedCfg : ChanCfg := { ChanCfg.reset with enable := true, refOffset := 10, pdt := 3, hdt := 5, hlt := 4 }

/-- Channel 3 in this hit at this tick, ARMED, the magnitude before being `prev`. -/
def inHit (h : Hit) (tick prev : Nat) : State :=
  (inRun { State.reset with tick := tick } .armed).setCh 3
    { Channel.reset with cfg := workedCfg, state := .hit h, prevMag := prev }

theorem test_tick103_counts :
    got (fun s => (s.ch 3).state) (exec (.laneSample 3 (-200)) (inHit workedHit 103 80))
      = some (.hit ⟨100, plainStamp, 103, 2, 200, 103, false, 83300, 83300, false⟩) := by decide

theorem test_tick107_fixes_the_peak :
    got (fun s => (s.ch 3).state)
      (exec (.laneSample 3 250) (inHit ⟨100, plainStamp, 106, 3, 200, 103, false, 107100, 107100, false⟩ 107 110))
      = some (.hit ⟨100, plainStamp, 106, 3, 200, 103, true, 169600, 107100, false⟩) := by decide

/-- The hit after the sample of tick 111. -/
def hitAt111 : State :=
  (inHit ⟨100, plainStamp, 106, 3, 200, 103, true, 172600, 107100, false⟩ 111 10).modCh 3
    fun x => { x with frameSeen := true }

theorem test_hit_record :
    got (fun s => (s.hitList.map (·.record), (s.ch 3).state)) (exec (.hitEnd 3) hitAt111)
      = some ([⟨3, 100, 3, 6, 3, 56, 1, plainStamp, false, false, false⟩], .lockout 115) := by decide

theorem test_lockout_ignores_a_sample :
    got (fun s => ((s.ch 3).state, (s.ch 3).prevMag))
      (exec (.laneSample 3 900) ((inRun { State.reset with tick := 112 } .armed).setCh 3
        { Channel.reset with cfg := workedCfg, state := .lockout 115 })) = some (.lockout 115, 900) := by decide

theorem test_loss_cuts_the_hit :
    got (fun s => (s.hitList.map (·.record), (s.ch 3).state))
      (exec (.laneLost 3) ((inHit ⟨100, plainStamp, 103, 2, 200, 103, false, 83300, 83300, false⟩ 107 0).modCh 3
        fun x => { x with missingRun := 4, frameSeen := true }))
      = some ([⟨3, 100, 3, 3, 2, 56, 1, plainStamp, false, false, true⟩], .fault) := by decide

/-- Channels 2 and 3 in that hit at tick 111, channel 3 with its sample taken, the list as given. -/
def bothHits (seen2 : Bool) (list : List Entry) : State :=
  ({ hitAt111 with hitList := list } : State).setCh 2 { hitAt111.ch 3 with frameSeen := seen2 }

/-- A list with one place left. -/
def onePlace : List Entry := List.replicate 511 ⟨recAt 0 0, false⟩

/-- A list with no place left. -/
def fullList : List Entry := ⟨recAt 0 0, false⟩ :: onePlace

/-- R48, R49: on a full list the offer of channel 3 is not dropped while channel 2 can still offer; that of channel 2 is
dropped at once. -/
theorem test_full_list_drops_in_channel_order :
    got (fun s => (s.hitList.length, s.offers.length, (s.ch 3).dropped)) (exec (.hitEnd 3) (bothHits true fullList))
      = some (512, 1, 0) ∧
    got (fun s => (s.hitList.length, s.offers.length, (s.ch 2).dropped)) (exec (.hitEnd 2) (bothHits true fullList))
      = some (512, 0, 1) := by decide +kernel

/-- R38, R48: with one place left the offer of channel 3 waits while channel 2 is in HIT; its lockout begins. -/
theorem test_offer_waits_for_a_lower_channel :
    got (fun s => (s.hitList.length, s.offers.length, (s.ch 3).state)) (exec (.hitEnd 3) (bothHits false onePlace))
      = some (511, 1, .lockout 115) := by decide +kernel

/-- R19, R48: a loss whose offer waits brings the channel to FAULT at its sample, with the notice of tick 111. -/
theorem test_loss_does_not_wait_for_its_offer :
    got (fun s => (s.offers.length, (s.ch 3).state, s.rep.notices.getLast?))
      (exec (.laneLost 3) ((bothHits false onePlace).modCh 3 fun x => { x with missingRun := 4 }))
      = some (1, .fault, some (.faultLost 111 3 1)) := by decide +kernel

/-- R48: with one place left and both ends due at tick 111, channel 2 enters and channel 3 is dropped. -/
theorem test_lower_channel_is_offered_first :
    got (fun s => (s.hitList.length, (s.ch 2).entered, (s.ch 3).dropped)) (exec .tick (bothHits true onePlace))
      = some (512, 1, 1) := by decide +kernel

/-- R48, R55: a freeze at tick 110 cuts channel 2 into the last place; channel 3, whose own end is due, is dropped. -/
theorem test_cuts_take_their_turn :
    got (fun s => (s.hitList.length, (s.ch 2).entered, (s.ch 3).dropped))
      (exec .stop { (bothHits true onePlace).modCh 3 fun x => { x with cfg := { x.cfg with hdt := 4 } } with
        tick := 110, link := (asks 0x10#8 []).link }) = some (512, 1, 1) := by decide +kernel

/-- R49, R55, R61: a run reset in the tick of a freeze: of the two hits still to be cut one finds no place. -/
theorem test_run_reset_cuts_what_the_freeze_left :
    got (fun s => (s.dropFlag, s.ctl.run, s.hitList, s.offers))
      (exec .resetRun { inRun (bothHits false onePlace) .freezing with link := (asks 0x03#8 []).link })
      = some (true, .idle, [], []) := by decide +kernel

/-- R34, R157: in FREEZING the sample of the tick of entry sets CLIPPED in the hit that is cut, and no clip onset. -/
theorem test_last_sample_of_a_cut_hit :
    got (fun s => (s.hitList.map fun e => (e.record.clipped, e.record.cut, e.record.counts), (s.ch 3).state,
        s.ctl.clipTicks))
      (exec (.laneSample 3 32767) (inRun (inHit workedHit 103 80) .freezing))
      = some ([(true, true, 2)], .quiet, Vector.replicate 16 none) := by decide

/-- Channel 3 at its maximum duration, its sample still to come. -/
def longHit : State := inHit ⟨100, plainStamp, 500098, 2, 150, 101, false, 43300, 14400, false⟩ 500100 80

/-- R37: a cut and a forced end at one sample give LONG, also where the freeze comes before the sample. -/
theorem test_forced_end_at_the_cut_is_long :
    got (fun s => s.hitList.map fun e => (e.record.long, e.record.cut))
      (exec (.missingFrame 3) (inRun longHit .freezing)) = some [(true, false)] := by decide

/-- Channel 7 of the floating threshold sequence (02, 2.5) at the end of a block. -/
def floating (thr mean : Nat) : State :=
  State.reset.setCh 7
    { Channel.reset with
      cfg := { ChanCfg.reset with enable := true, mode := .floating }
      state := .quiet, thr := thr, blockPos := 4096, blockSum := 4096 * mean }

theorem test_threshold_rises_by_3 :
    got (fun s => ((s.ch 7).noiseCode, (s.ch 7).thr)) (exec (.noiseBlockEnd 7) (floating 40 317)) = some (50, 43) := by
  decide

theorem test_threshold_falls_to_the_floor :
    got (fun s => ((s.ch 7).noiseCode, (s.ch 7).thr)) (exec (.noiseBlockEnd 7) (floating 56 20)) = some (26, 53) := by
  decide

theorem test_channel_set_clamps_a_threshold :
    got (fun s => (answered s, (s.ch 1).thr)) (exec .channelSet (asks 0x04#8 [0#8, 2#8, 0#8, 8#8, 200#8]))
      = some (some (.clamped, []), 90) := by decide

/-- R40: a disable abandons the block, here one with its 4096 sample periods. -/
theorem test_disable_abandons_the_block :
    got (fun s => ((s.ch 7).blockPos, (s.ch 7).blockSum, (s.ch 7).state))
      (exec .channelSet ((asks 0x04#8 [0#8, 128#8, 0#8, 1#8, 0#8]).setCh 7 ((floating 40 317).ch 7)))
      = some (0, 0, .off) := by decide

theorem test_channel_set_short_payload :
    got answered (exec .channelSet (asks 0x04#8 [0#8, 2#8, 0#8, 8#8])) = some (some (.format, [])) := by decide

/-! ### Drop range (03, 3.4) -/

theorem test_drop_range_sequence :
    extendDrop 40000 none = ⟨40000, some 40000⟩ ∧
    extendDrop 39500 (some ⟨40000, some 40000⟩) = ⟨39500, some 40000⟩ ∧
    openSpan 52000 (some ⟨39500, some 40000⟩) = ⟨39500, none⟩ ∧
    extendDrop 53000 (some ⟨39500, none⟩) = ⟨39500, none⟩ ∧
    closeSpan 61000 (some ⟨39500, none⟩) = some ⟨39500, some 61000⟩ ∧
    clearDrop 66000 5000 (some ⟨39500, some 61000⟩) = some ⟨39500, some 61000⟩ ∧
    clearDrop 66010 5000 (some ⟨39500, some 61000⟩) = none := by decide

theorem test_gap_answers :
    meetsDrop 35000 40000 (some ⟨39500, some 40000⟩) = true ∧
    meetsDrop 34400 39400 (some ⟨39500, some 40000⟩) = false ∧
    meetsDrop 60000 65000 (some ⟨39500, some 61000⟩) = true ∧
    meetsDrop 61001 66001 (some ⟨39500, some 61000⟩) = false := by decide

/-! ### Association (04, 4.6) -/

/-- The run of 04, 4.6, ARMED at tick 100000: roles set, list and open event given. -/
def assocRun (list : List Entry) (o : Option OpenEvent) (till : Nat) : State :=
  ((inRun
    { State.reset with
      tick := 100000, hitList := list, assoc := { Assoc.reset with openEvent := o, lockoutUntil := till } }
    .armed).modCh 3 fun x => { x with cfg := { x.cfg with role := .guard } }).modCh 8
    fun x => { x with cfg := { x.cfg with role := .monitor } }

theorem test_entry_opens_an_event :
    got (fun s => (s.assoc.openEvent, s.assoc.position)) (exec .handOver (assocRun [⟨recAt 1000 0, false⟩] none 0))
      = some (some ⟨1000, 6000, false⟩, 1000) := by decide

theorem test_monitor_is_lone :
    got (fun s => (s.hitList, (s.ch 8).lone))
      (exec .handOver (assocRun [⟨recAt 1000 0, true⟩, ⟨recAt 1400 8, false⟩] (some ⟨1000, 6000, false⟩) 0))
      = some ([⟨recAt 1000 0, true⟩], 1) := by decide

theorem test_window_end_is_inside :
    got (fun s => s.taken.map (·.arrival))
      (exec .handOver (assocRun [⟨recAt 1000 0, true⟩, ⟨recAt 6000 2, false⟩] (some ⟨1000, 6000, false⟩) 0))
      = some [1000, 6000] := by decide

theorem test_next_entry_closes_and_is_locked_out :
    got (fun s => (s.hitList, s.assoc.lockoutUntil, s.assoc.eventNo, (s.ch 4).lone))
      (exec .handOver (assocRun [⟨recAt 1000 0, true⟩, ⟨recAt 2100 1, true⟩, ⟨recAt 6001 4, false⟩]
        (some ⟨1000, 6000, false⟩) 0)) = some ([], 16000, 2, 1) := by decide

theorem test_guard_opens_guarded :
    got (·.assoc.openEvent) (exec .handOver (assocRun [⟨recAt 16000 3, false⟩] none 16000))
      = some (some ⟨16000, 21000, true⟩) := by decide

theorem test_single_member_gives_no_number :
    got (fun s => (s.assoc.eventNo, s.assoc.lockoutUntil, s.assoc.position, (s.ch 4).lone))
      (exec .closeByHorizon (assocRun [⟨recAt 50000 4, true⟩] (some ⟨50000, 55000, false⟩) 46000))
      = some (1, 46000, 55000, 1) := by decide

/-! ### Location (05, 5.6) -/

/-- The shell of the worked locations, v = 5000. -/
def shell (win : Rect) : Geometry :=
  { Geometry.fresh 4000 2000 40 20 with
    pos := ((((((Vector.replicate 16 none).set 0 (some ⟨1200, 1000⟩)).set 1 (some ⟨1600, 1000⟩)).set 2
      (some ⟨1200, 1400⟩)).set 3 (some ⟨0, 1000⟩)).set 4 (some ⟨3600, 1000⟩)).set 5 (some ⟨0, 1400⟩)
    win := Vector.replicate 16 win }

/-- An event with these members. -/
def eventOn (first : Chan) (members : List Member) : EventRec :=
  ⟨1, .undecided, first, 1000, 0, .ramp, 0, false, false, false, false, members, none⟩

/-- The location of the nine cells with this residual limit and this window. -/
def nineCells (rl : Nat) (win : Rect) : Locating :=
  ⟨eventOn 0 [⟨recAt 1000 0, 0⟩, ⟨recAt 1285 1, 285⟩, ⟨recAt 1281 2, 281⟩], 0, shell win, 5000, rl⟩

theorem test_cell_centre : (shell ⟨0, 40, 0, 20⟩).centre 12 10 = ⟨1250, 1050⟩ := by decide

theorem test_nine_cells : (nineCells 400 ⟨11, 3, 9, 3⟩).part = ⟨12, 10, 412, 8, 4, 2, false, none⟩ := by decide +kernel

theorem test_residual_limit_3_is_no_fit : (nineCells 3 ⟨11, 3, 9, 3⟩).decide = .noFit := by decide +kernel

theorem test_edge_on_the_first_column : (nineCells 400 ⟨12, 3, 9, 3⟩).part.edge = true := by decide +kernel

theorem test_across_the_seam :
    Locating.part
      ⟨eventOn 3 [⟨recAt 1000 3, 0⟩, ⟨recAt 1380 4, 380⟩, ⟨recAt 1285 5, 285⟩], 0, shell ⟨39, 3, 9, 3⟩, 5000, 400⟩
      = ⟨0, 10, 400, 8, 4, 2, false, none⟩ := by decide +kernel

theorem test_location_ends_located :
    got (fun s => (s.loc.busy, s.ctl.located))
      (exec .locationEnd { State.reset with loc := { Locator.reset with busy := some (nineCells 400 ⟨11, 3, 9, 3⟩) } })
      = some (none, 1) := by decide +kernel

/-! ### The map (06) -/

/-- The members of the worked accumulation of 06, 6.1. -/
def threeMembers : List Member :=
  [⟨{ recAt 1310400 0 with energy := 41000, amplitude := 68 }, 0⟩,
    ⟨{ recAt 1310500 1 with energy := 30000, amplitude := 74 }, 100⟩,
    ⟨{ recAt 1310600 2 with energy := 2100, amplitude := 59 }, 200⟩]

theorem test_accumulation :
    (Cell.mk 4 2 1 4294900000 71 1250000 .clear).add
      { eventOn 0 threeMembers with first := 1310400, phase := .reload, belowMax := true }
      = ⟨5, 2, 2, 4294967295, 74, 1310400, .clear⟩ := by decide

theorem test_neighbourhoods :
    neighbourhood 40 20 0 5 = [199, 160, 161, 239, 200, 201, 279, 240, 241] ∧
    (neighbourhood 40 20 3 0).length = 6 ∧ (neighbourhood 4 1 3 0).length = 3 := by decide

theorem test_lines_of_six_columns :
    (List.range 6).map (lineOf .block 6) = [0, 0, 1, 2, 2, 3] ∧
    (List.range 6).map (lineOf .paired 6) = [0, 1, 0, 3, 2, 3] ∧
    (List.range 6).map (lineOf .quad 6) = [0, 1, 2, 3, 0, 1] := by decide

/-- Step 7 of the cluster of 06, 6.6, on the four columns and two rows round the cell. -/
def beforeRise : ActMap :=
  { ActMap.reset with
    holdOn := true
    cells := [⟨1, 0, 0, 0, 0, 0, .clear⟩, ⟨2, 1, 1, 0, 0, 0, .clear⟩, ⟨1, 0, 0, 0, 0, 0, .clear⟩, Cell.cleared,
      Cell.cleared, ⟨1, 1, 0, 0, 0, 0, .clear⟩, ⟨1, 0, 1, 0, 0, 0, .watch⟩, Cell.cleared] }

theorem test_cluster_rises :
    ((beforeRise.land 4 2 { eventOn 0 [] with phase := .hold, belowMax := true } 1 0).cell 1,
      (beforeRise.land 4 2 { eventOn 0 [] with phase := .hold, belowMax := true } 1 0).latch)
      = (⟨3, 2, 2, 0, 0, 1000, .active⟩, true) := by decide

/-- The positions of the read at the edge of the grid (06, 6.7), each with its last byte. -/
theorem test_map_read_leaves_the_grid :
    (mapReadRule [38#8, 4#8, 19#8, 2#8]
      { State.reset with
        loc := { Locator.reset with geom := some (shell ⟨0, 40, 0, 20⟩) }
        map := { ActMap.reset with cells := List.replicate 800 Cell.cleared } }).2.2.take 67
      = 8#8 :: [38#8, 19#8, 3#8, 30#8] ++ List.replicate 18 0#8 ++ [39#8, 19#8, 3#8, 31#8] ++ List.replicate 18 0#8
        ++ [40#8, 19#8] ++ List.replicate 19 0#8 ++ [0xFF#8] := by decide +kernel

theorem test_map_read_of_36_positions :
    got answered (exec .mapRead (asks 0x13#8 [0#8, 6#8, 0#8, 6#8])) = some (some (.range, [])) := by decide

/-! ### Checks (07) -/

theorem test_pair_velocity :
    ({ Locator.reset with geom := some (shell ⟨0, 40, 0, 20⟩) }.pairVel 0 1 (.heard 672 62)) = .valid 2976 ∧
    ({ Locator.reset with geom := some (shell ⟨0, 40, 0, 20⟩) }.pairVel 2 1 (.heard 947 54)) = .valid 2983 := by decide +kernel

theorem test_estimate : estimateOf [2976, 2994, 2985, 2974, 3008, 2983] = some 2983 := by decide

theorem test_degraded :
    isDegraded 6 (some 62) (.heard 672 53) = true ∧ isDegraded 6 (some 60) (.heard 668 57) = false ∧
    isDegraded 6 (some 54) .silent = true := by decide

/-- The pattern of 07, 7.6 in channel 5 after index 4: PDT 3, HDT 5. -/
def replayed : Replay :=
  ⟨120, some ⟨102, plainStamp, 105, 2, 300, 103, false, 135000, 135000, false⟩, none⟩

theorem test_pattern_outcome :
    hitOutcome ⟨102, plainStamp, 105, 2, 300, 103, false, 136600, 135000, false⟩
      { ChanCfg.reset with pdt := 3, hdt := 5 } 100 false = .hit 1 1 3 2 2 49 false false := by decide

theorem test_pattern_count_after_a_dip :
    Replay.sample ⟨90, some ⟨102, plainStamp, 102, 1, 300, 103, false, 120600, 22500, false⟩, none⟩
      { Channel.reset with cfg := { ChanCfg.reset with pdt := 3, hdt := 5 } } 105 120 = replayed := by decide

/-! ### Link and requests (09, 11) -/

/-- The IDENTIFY frame with tag 07h, its CRC worked by hand: 77E4h. -/
theorem test_identify_frame_is_ready :
    got (·.link.ready) (exec (.frameReceived [0x00#8, 0xC3#8, 0xC3#8, 0x3C#8, 1#8, 7#8, 0#8, 0#8, 0x77#8, 0xE4#8])
      State.reset) = some [⟨1#8, 7#8, []⟩] := by decide +kernel

theorem test_identify_reply :
    got answered (exec .identify (asks 1#8 []))
      = some (some (.done, [0x4E#8, 0x16#8, 1#8, 16#8, 3#8, 0xFC#8, 0#8])) := by decide

theorem test_kind_19_is_unknown :
    got answered (exec .unknownKind (asks 0x19#8 [])) = some (some (.unknown, [])) := by decide

theorem test_another_row_does_not_take_the_frame :
    got answered (exec .status (asks 1#8 [])) = some none := by decide

/-! ### Run control (08) and reports (10) -/

theorem test_arm_then_run : got (·.ctl.run) (exec .arm (asks 0x0F#8 [0#8])) = some .armed := by decide +kernel

theorem test_stop_in_idle_is_state :
    got answered (exec .stop (asks 0x10#8 [])) = some (some (.state, [])) := by decide

theorem test_hrdy_sends_the_notice :
    got (fun s => (s.rep.notices, s.rep.tx.isSome)) (exec (.hrdyAsserted true) State.reset) = some ([], true) := by decide +kernel

theorem test_report_set_equal_levels_are_range :
    got answered (exec .reportSet (asks 0x0E#8 [0#8, 0#8, 64#8, 64#8, 8#8, 0#8, 20#8, 3#8, 0xE8#8]))
      = some (some (.range, [])) := by decide

/-! ### Witnesses: the machine, the timebase and the pressure monitor

Each theorem is named after its statement and shows concrete states and operands that meet its hypotheses, clause by
clause, at the ends of their ranges. -/

/-- The frame that `asks` holds READY. -/
def frm (kind : Byte) (payload : List Byte) : Frame := ⟨kind, 7#8, payload⟩

/-- The handler can take the frame that `asks` holds, in any run state: the premise of every request statement. -/
theorem asks_takes (kind : Byte) (payload : List Byte) (run : RunState) :
    State.Takes (inRun (asks kind payload) run) (frm kind payload) [] := ⟨rfl, rfl, rfl⟩

/-- In IDLE and in FROZEN configuration requests are taken. -/
theorem asks_configurable (kind : Byte) (payload : List Byte) :
    (inRun (asks kind payload) .idle).Configurable ∧ (inRun (asks kind payload) .frozen).Configurable :=
  ⟨.inl rfl, .inr rfl⟩

/-- A SHORT check in GATHERING: pulser 0, listener 1, LW 100, ring-down 1 ms. -/
def shortCheck : Check :=
  ⟨.short, false, 0, ((Vector.replicate 16 false).set 0 true).set 1 true, Vector.replicate 16 false, [0], 100, 1, 6,
    false, false, 0, 0, .idle, 0, none, Vector.replicate 256 .notMeasured, 0, Vector.replicate 16 ⟨0, none, none⟩⟩

/-- Reset with this check in progress. -/
def checking (ck : Check) : State := { State.reset with chk := { CheckUnit.reset with check := some ck } }

/-- Reset with this channel in place of channel 3. -/
def withCh (x : Channel) : State := State.reset.setCh 3 x

theorem witness_StepRunsTheFrontCommand :
    ({ State.reset with pending := [.tick, .status] } : State).pending = .tick :: [.status] ∧
    State.reset.pending = [] := ⟨rfl, rfl⟩

theorem witness_EveryCommandCompletes :
    ({ State.reset with inReset := true } : State).inReset = true ∧ Instr.tick ≠ .fullReset ∧
    (∀ b, Instr.tick ≠ .fullResetEnd b) ∧ (∀ l, Instr.tick ≠ .hrdyAsserted l) ∧
    Instr.hrdyAsserted true ≠ .fullReset ∧ ∀ b, Instr.hrdyAsserted true ≠ .fullResetEnd b :=
  ⟨rfl, by decide, nofun, nofun, by decide, nofun⟩

/-- No channel is in HIT where every channel is at reset. -/
theorem reset_no_hit (c : Chan) (h : Hit) : (State.reset.ch c).state ≠ .hit h := by
  have e : ∀ c, State.reset.ch c = Channel.reset := by decide
  rw [e]; nofun

/-- Channels 2 and 3 in that hit at tick 110, at which their samples have been taken, with the loss of their lanes due:
their own ends are not. -/
def bothLost (list : List Entry) : State :=
  { (bothHits true list).mapCh fun _ x => { x with missingRun := 4 } with tick := 110 }

theorem witness_TickCountsToItsLimit :
    State.reset.inReset = false ∧ State.reset.chk.check = none ∧
    ((checking shortCheck).chk.check = some shortCheck ∧ shortCheck.running = false) ∧
    ((inRun { State.reset with tick := 281474976710655 } .armed).ctl.run = .armed ∧
      (inRun { State.reset with tick := 281474976710655 } .armed).tick = 281474976710655) ∧
    ¬((inRun { State.reset with tick := 281474976710654 } .armed).ctl.run = .armed ∧
      (inRun { State.reset with tick := 281474976710654 } .armed).tick = 281474976710655) :=
  ⟨rfl, rfl, ⟨rfl, rfl⟩, ⟨rfl, rfl⟩, by decide⟩

theorem witness_ConversionStartsAndMayBeUnused :
    (State.reset.inReset = false ∧
      5000 * 2 ^ State.reset.press.period.val ≤ ({ Pressure.reset with periodTimer := 40000 } : Pressure).periodTimer ∧
      ({ Pressure.reset with periodTimer := 39999 } : Pressure).periodTimer < 5000 * 2 ^ State.reset.press.period.val) ∧
    (lossRun.press.converting = true ∧ 5 * 2 ^ lossRun.press.acq.val + 15 ≤ lossRun.press.periodTimer ∧
      (0#12).toNat = 0 ∧ 0 < lossRun.press.zero ∧ lossRun.press.flag ≠ .under) ∧
    ({ lossRun.press with flag := .under } : Pressure).flag = .under ∧
    ({ lossRun.press with periodTimer := 24 } : Pressure).periodTimer < 5 * 2 ^ lossRun.press.acq.val + 15 := by decide

/-- The equations of the statement define its other operands. The third line from the end meets the premises of the
check clause, the last two those of the drop clause (code 100 is a drop of 11890) and of its complement. -/
theorem witness_ConversionFormsValues :
    lossRun.inReset = false ∧ lossRun.press.converting = true ∧
    5 * 2 ^ lossRun.press.acq.val + 15 ≤ lossRun.press.periodTimer ∧
    ¬((2050#12).toNat = 0 ∧ 0 < lossRun.press.zero) ∧ ¬((0#12).toNat = 0 ∧ 0 < State.reset.press.zero) ∧
    ({ shortCheck with startRun := .armed } : Check).startRun = .armed ∧ afterStep7.phase = .hold ∧
    (afterStep7.compute 9800).phase ≠ .hold ∧
    (lossRun.press.history ≠ [] ∧ lossRun.press.flag ≠ .under ∧ (inRun lossRun .armed).ctl.run = .armed ∧
      11890 ≤ lossRun.press.pPrev - (47600 + 47520 + 47610 + 0) / 4 ∧ (100#12).toNat ≤ lossRun.press.zero) ∧
    (State.reset.press.flag ≠ .under ∧ ({ lossRun.press with flag := .under } : Pressure).flag = .under ∧
      ({ lossRun.press with history := [] } : Pressure).history = []) := by decide

theorem witness_PressureSetTaken :
    State.Takes (inRun (asks 0x06#8 [5#8, 3#8, 0#8, 0#8, 1#8, 0#8, 0#8, 0#8, 0#8, 0#8, 1#8, 1#8]) .idle)
      (frm 0x06#8 [5#8, 3#8, 0#8, 0#8, 1#8, 0#8, 0#8, 0#8, 0#8, 0#8, 1#8, 1#8]) [] ∧
    ((5#8).toNat < 6 ∧ (3#8).toNat < 4) ∧ (5 < (6#8).toNat ∨ 3 < (0#8).toNat) ∧ (5 < (0#8).toNat ∨ 3 < (4#8).toNat) :=
  ⟨asks_takes _ _ _, by decide⟩

/-! ### Witnesses: the report unit -/

/-- A report unit that may send, with these queues. -/
def sending (notices : List Notice) (data : List Queued) : Report :=
  { Report.reset with hrdy := true, notices := notices, data := data }

/-- The RUN notice of a full reset. -/
def someNotice : Notice := .run .fullReset .idle .idle 0 1 .plain

/-- A lone hit in the data queue. -/
def someRecord : Queued := ⟨.hit (recAt 0 0) .single, 0⟩

theorem witness_NoticeJoinsOrIsLost :
    ({ Report.reset with notices := List.replicate 15 someNotice } : Report).notices.length < 16 ∧
    16 ≤ ({ Report.reset with notices := List.replicate 16 someNotice } : Report).notices.length := by decide

theorem witness_TransmitterArbitrates :
    (sending [] [someRecord]).data = [someRecord] ∧ (sending [] []).data = [] ∧
    ({ Report.reset with tx := some [] } : Report).tx ≠ none ∧ Report.reset.hrdy = false ∧
    (sending [someNotice] []).tx = none ∧ (sending [someNotice] []).hrdy = true ∧
    ({ sending [] [] with reply := some ⟨0#8, 1#8, .done, []⟩ } : Report).reply = some ⟨0#8, 1#8, .done, []⟩ ∧
    (sending [someNotice] []).reply = none ∧ (sending [someNotice] []).notices = someNotice :: [] ∧
    (sending [] [someRecord]).notices = [] ∧ (∀ q ∈ (sending [] [someRecord]).data, q.record.bytes.length ≤ 1020) ∧
    (sending [] [someRecord]).batchReady .frozen 0 = true ∧ (sending [] [someRecord]).batchReady .idle 0 = false := by
  decide

theorem witness_RecordHandedOver :
    Report.reset.level = .full ∧ ({ Report.reset with level := .events } : Report).level = .events ∧
    ({ Report.reset with level := .summary } : Report).level = .summary ∧
    (∃ e, DataRec.event (eventOn 0 []) = .event e) ∧ (∃ h w, DataRec.hit (recAt 0 0) .single = .hit h w) ∧
    (sending [] (List.replicate 255 someRecord)).data.length < 256 ∧
    256 ≤ (sending [] (List.replicate 256 someRecord)).data.length :=
  ⟨rfl, rfl, rfl, ⟨_, rfl⟩, ⟨_, _, rfl⟩, by decide +kernel, by decide +kernel⟩

theorem witness_TransmitterChooses :
    State.reset.inReset = false ∧ ({ Report.reset with tx := some [] } : Report).tx ≠ none ∧ Report.reset.tx = none ∧
    (sending [] [someRecord]).data = someRecord :: [] ∧ (inRun State.reset .armed).ctl.run = .armed ∧
    someRecord.joined + 5000 * Report.reset.age ≤ 100000 ∧ 99999 < someRecord.joined + 5000 * Report.reset.age ∧
    State.reset.ctl.run ≠ .armed ∧ Report.reset.data = [] ∧ Report.reset.hrdy = false ∧
    (sending [] []).hrdy = true := by decide

theorem witness_SummaryBuilt :
    State.reset.inReset = false ∧ ({ Report.reset with period := 0 } : Report).period = 0 ∧
    ({ Report.reset with timer := 4999999 } : Report).timer < 5000 * Report.reset.period ∧ Report.reset.period ≠ 0 ∧
    5000 * Report.reset.period ≤ ({ Report.reset with timer := 5000000 } : Report).timer := by decide

theorem witness_ReportSetByItsTests :
    State.Takes (inRun (asks 0x0E#8 [2#8, 0#8, 65#8, 64#8, 8#8, 0#8, 20#8, 3#8, 0xE8#8]) .armed)
      (frm 0x0E#8 [2#8, 0#8, 65#8, 64#8, 8#8, 0#8, 20#8, 3#8, 0xE8#8]) [] ∧
    ((frm 0x0E#8 []).payload.length ≠ 9 ∧ RunState.armed ≠ .freezing ∧ 2 < (3#8).toNat ∧
      (0#8).toNat * 256 + (64#8).toNat ≤ (64#8).toNat ∧ (2#8).toNat = Detail.summary.code ∧
      (64#8).toNat < (0#8).toNat * 256 + (65#8).toNat) := ⟨asks_takes _ _ _, by decide⟩

/-! ### Witnesses: the channels -/

/-- A QUIET channel, threshold 40. -/
def quietCh : Channel := { Channel.reset with state := .quiet, cfg := workedCfg }

/-- Nothing is due of channel 3 where its state is none of HIT and LOCKOUT and its counts are at reset. -/
theorem nothing_due (st : ChState) (lane : LaneStatus) (h1 : ∀ h, st ≠ .hit h) (h2 : ∀ k, st ≠ .lockout k) :
    (withCh { quietCh with state := st, lane := lane }).NothingDue 3 :=
  ⟨show 0 < 4096 by decide, rfl, fun h e => absurd e (h1 h), fun k e => absurd e (h2 k),
    fun _ => show 0 < 4 by decide, fun _ => show 0 < 64 by decide⟩

theorem witness_QuietSampleOpensHit :
    ((withCh quietCh).inReset = false ∧ (withCh quietCh).ch 3 = quietCh ∧ quietCh.frameSeen = false ∧
      quietCh.state = .quiet ∧ quietCh.lane = .good) ∧ (withCh quietCh).NothingDue 3 ∧
    (bigM quietCh.thr ≤ 100 ∧ quietCh.prevMag < bigM quietCh.thr) ∧ ¬bigM quietCh.thr ≤ 99 :=
  ⟨⟨rfl, rfl, rfl, rfl, rfl⟩, nothing_due _ _ nofun nofun, by decide⟩

theorem witness_OnsetCounted :
    Pressure.reset.spanOpen = false ∧
    (afterStep7.spanOpen = true ∧ afterStep7.spanMarked = false ∧
      (Stamp.mk 9500 .unload 1 true false).belowMax = true ∧ (Stamp.mk 9500 .unload 1 true false).stale = false) ∧
    ({ afterStep7 with onsetCount := 2 } : Pressure).spanCount + 1 < 2 ∧
    2 ≤ ({ afterStep7 with spanCount := 1 } : Pressure).spanCount + 1 ∧ afterStep7.pMax ≠ 0 ∧
    ({ afterStep7 with pMax := 0 } : Pressure).pMax = 0 := by decide

theorem witness_ClipTestFreezes :
    State.reset.ctl.run ≠ .armed ∧ (inRun State.reset .armed).ctl.run = .armed ∧
    ({ RunCtl.reset with rc := 0 } : RunCtl).rc = 0 ∧ (1 < RunCtl.reset.rc) ∧
    ({ RunCtl.reset with rc := 1 } : RunCtl).rc ≠ 0 ∧ ({ RunCtl.reset with rc := 1 } : RunCtl).rc ≤ 1 ∧
    (∃ ticks : Vector (Option Nat) 16, ticks = State.reset.ctl.clipTicks.set (0 : Chan) (some State.reset.tick) ∧
      1 = (allChans.filter fun d => match ticks[d] with
        | none => false
        | some u => decide (State.reset.tick - State.reset.ctl.rw ≤ u)).length ∧
      ∃ counted : Vector Bool 16, ∀ d : Chan, counted[d] = match ticks[d] with
        | none => false
        | some u => decide (State.reset.tick - State.reset.ctl.rw ≤ u)) :=
  ⟨by decide, by decide, by decide, by decide, by decide, by decide, _, rfl, by decide,
    (Vector.replicate 16 false).set 0 true, by decide⟩

theorem witness_HitSampleMeasures :
    ((inHit workedHit 103 80).inReset = false ∧ ((inHit workedHit 103 80).ch 3).frameSeen = false ∧
      ((inHit workedHit 103 80).ch 3).state = .hit workedHit ∧ ((inHit workedHit 103 80).ch 3).lane = .good) ∧
    (inHit workedHit 105 80).NothingDue 3 :=
  ⟨⟨rfl, rfl, rfl, rfl⟩, by decide, rfl, fun h e => by cases e; decide, fun k e => (nomatch e),
    fun _ => by decide, fun _ => by decide⟩

/-- The frame of channel 3 in FREEZING, its hit still to be cut. -/
theorem witness_FramesInFreezing :
    (inRun (inHit workedHit 105 80) .freezing).ctl.run = .freezing ∧
    ((inRun (inHit workedHit 105 80) .freezing).ch 3).state = .hit workedHit ∧
    (inRun (inHit workedHit 105 80) .freezing).NothingDue 3 :=
  ⟨rfl, rfl, by decide, rfl, fun h e => by cases e; decide, fun k e => (nomatch e), fun _ => by decide,
    fun _ => by decide⟩

theorem witness_FramesWithoutACountAreTaken :
    (withCh quietCh).inReset = false ∧ quietCh.frameSeen = false ∧
    ({ quietCh with frameSeen := true } : Channel).frameSeen = true ∧ (withCh quietCh).NothingDue 3 ∧
    (withCh { quietCh with state := .off }).NothingDue 3 ∧
    (withCh { quietCh with state := .fault, lane := .lost }).NothingDue 3 ∧
    (withCh { quietCh with state := .settling }).NothingDue 3 ∧
    (withCh { quietCh with state := .lockout 0 }).NothingDue 3 :=
  ⟨rfl, rfl, rfl, nothing_due _ _ nofun nofun, nothing_due _ .good nofun nofun, nothing_due _ _ nofun nofun,
    nothing_due _ .good nofun nofun,
    ⟨by decide, rfl, nofun, fun k e => by cases e; decide, fun _ => by decide, fun _ => by decide⟩⟩

theorem witness_PeakFixesAndNoiseBlockEnds :
    (inHit workedHit 103 80).inReset = false ∧ ((inHit workedHit 103 80).ch 3).state = .hit workedHit ∧
    (∀ h, ((withCh quietCh).ch 3).state ≠ .hit h) ∧
    ({ quietCh with blockPos := 4095 } : Channel).blockPos < 4096 ∧
    4096 ≤ ({ quietCh with blockPos := 4096 } : Channel).blockPos ∧
    ({ quietCh with blockBad := true } : Channel).blockBad = true ∧ quietCh.blockBad = false :=
  ⟨rfl, rfl, fun h e => (nomatch e), by decide, by decide, rfl, rfl⟩

theorem witness_HitsLockoutsAndSettlingEnd :
    (hitAt111.inReset = false ∧ (hitAt111.ch 3).state = .hit ⟨100, plainStamp, 106, 3, 200, 103, true, 172600, 107100,
        false⟩ ∧ Reached hitAt111.tick (hitAt111.ch 3).frameSeen 111 ∧
      (111 = 106 + (hitAt111.ch 3).cfg.hdt ∧ 111 ≤ 100 + (hitAt111.ch 3).cfg.maxDur)) ∧
    (Reached 110 true 110 ∧ 110 = 100 + 10 ∧ 110 < 106 + workedCfg.hdt) ∧
    hitAt111.hitList.length < 512 ∧ 512 ≤ (List.replicate 512 (Entry.mk (recAt 0 0) false)).length ∧
    ({ quietCh with state := .lockout 115 } : Channel).state = .lockout 115 ∧ Reached 115 true 115 ∧
    ¬Reached 115 false 115 ∧ ({ quietCh with state := .settling } : Channel).state = .settling ∧
    ({ quietCh with settleDue := true } : Channel).settleDue = true ∧ quietCh.settleDue = false ∧
    ¬Reached (inHit workedHit 103 80).tick false (100 + workedCfg.hdt) ∧
    ¬Reached (inHit workedHit 103 80).tick false (100 + workedCfg.maxDur) := by
  refine ⟨⟨rfl, rfl, .inr ⟨rfl, rfl⟩, by decide⟩, ⟨.inr ⟨rfl, rfl⟩, rfl, by decide⟩, by decide, by decide +kernel, rfl,
    .inr ⟨rfl, rfl⟩, ?_, rfl, rfl, rfl, ?_, ?_⟩ <;> unfold Reached <;> decide

/-- The offers of HitsLockoutsAndSettlingEnd: in turn, with places for every lower channel that can still offer or with
none that can; out of turn, with one place or none and channel 2 in HIT, and in FREEZING. -/
theorem witness_OffersOfOneSample :
    (hitAt111.InTurn 3 ∧ (bothHits true onePlace).InTurn 2 ∧ (bothHits true fullList).InTurn 2) ∧
    (¬(bothHits true onePlace).InTurn 3 ∧ ¬(bothHits true fullList).InTurn 3) ∧ ¬(inRun hitAt111 .freezing).InTurn 3 := by
  refine ⟨⟨?_, ?_, ?_⟩, ⟨?_, ?_⟩, fun w => w.1 rfl⟩ <;> decide +kernel

/-- The clauses of a loss in HIT: in turn, out of turn, and in FREEZING. -/
theorem witness_LossInHit :
    ((bothLost onePlace).ctl.run ≠ .freezing ∧ (bothLost onePlace).InTurn 2 ∧ ¬(bothLost onePlace).InTurn 3) ∧
    (∀ c : Chan, c = 2 ∨ c = 3 → ((bothLost onePlace).ch c).lane = .good ∧ ((bothLost onePlace).ch c).missingRun = 4 ∧
      ((bothLost onePlace).ch c).holdsAt = some 100) ∧
    (inRun (bothLost []) .freezing).ctl.run = .freezing := by
  refine ⟨⟨?_, ?_, ?_⟩, ?_, rfl⟩ <;> decide +kernel

theorem witness_LaneIsLostAndRecovers :
    State.reset.inReset = false ∧ ({ quietCh with missingRun := 3 } : Channel).missingRun < 4 ∧
    quietCh.lane = .good ∧ ({ quietCh with missingRun := 4 } : Channel).missingRun = 4 ∧
    Channel.reset.state = .off ∧ quietCh.state ≠ .off ∧ quietCh.pendingThr = none ∧
    ({ quietCh with pendingThr := some 90 } : Channel).pendingThr = some 90 ∧
    (∀ h, quietCh.state ≠ .hit h) ∧ ((inHit workedHit 103 80).ch 3).state = .hit workedHit ∧
    ¬Reached 103 true (workedHit.lastCount + workedCfg.hdt) ∧
    ¬Reached 103 true (workedHit.arrival + workedCfg.maxDur) ∧
    (checking shortCheck).chk.check = some shortCheck ∧ shortCheck.involved[(1 : Chan)] = true ∧
    shortCheck.removed[(1 : Chan)] = false ∧ State.reset.claimed 3 = false ∧
    ({ quietCh with lane := .lost } : Channel).lane = .lost ∧ ({ quietCh with goodRun := 63 } : Channel).goodRun < 64 ∧
    ({ quietCh with goodRun := 64 } : Channel).goodRun = 64 ∧ quietCh.state ≠ .fault ∧
    ({ quietCh with state := .fault } : Channel).state = .fault := by
  refine ⟨rfl, by decide, rfl, rfl, rfl,
    by decide, rfl, rfl, nofun, rfl, ?_, ?_, rfl, rfl, rfl, rfl, rfl, by decide,
    rfl, by decide, rfl⟩ <;> unfold Reached <;> decide

/-- CHANNEL SET of channel 1 with the threshold code 90, and with enable on. -/
theorem witness_ChannelSetByItsTests :
    State.Takes (inRun (asks 0x04#8 [0#8, 2#8, 0#8, 8#8, 90#8]) .idle) (frm 0x04#8 [0#8, 2#8, 0#8, 8#8, 90#8]) [] ∧
    (∃ item : Fin 11 → Option Nat, (∀ n, (item n).isSome = (0 * 256 + 8).testBit n.val) ∧
      (∀ n v, item n = some v → v < 256 ^ (![1, 1, 1, 1, 1, 1, 2, 2, 2, 3, 1] : Fin 11 → Nat) n) ∧
      ([90#8] : List Byte) = ((List.finRange 11).flatMap fun n => match item n with
        | some v => be ((![1, 1, 1, 1, 1, 1, 2, 2, 2, 3, 1] : Fin 11 → Nat) n) v
        | none => []) ∧
      ¬∃ n : Fin 11, (item n).isSome = true ∧ n ≠ 3 ∧ n ≠ 4 ∧ n ≠ 5) ∧
    (∃ item : Fin 11 → Option Nat, (∀ n, (item n).isSome = (0 * 256 + 1).testBit n.val) ∧
      ∃ n : Fin 11, (item n).isSome = true ∧ n ≠ 3 ∧ n ≠ 4 ∧ n ≠ 5) ∧
    ((frm 0x04#8 [0#8, 2#8, 0#8]).payload.length < 4 ∧ ([] : List Byte).length ≠ 1) ∧
    (inRun State.reset .freezing).ctl.run = .freezing ∧ (inRun State.reset .armed).ctl.run = .armed ∧
    (checking shortCheck).claimed 1 = true ∧ State.reset.claimed 1 = false := by
  refine ⟨asks_takes _ _ _, ⟨fun n => if n = 3 then some 90 else none, by decide, ?_, by decide, by decide⟩,
    ⟨fun n => if n = 0 then some 1 else none, by decide, 0, by decide⟩, by decide, rfl, rfl, rfl, rfl⟩
  intro n v e
  dsimp only at e
  split at e
  · next h => subst h; cases e; decide
  · cases e

theorem witness_ChannelGetReports :
    State.Takes (inRun (asks 0x05#8 [15#8]) .freezing) (frm 0x05#8 [15#8]) [] ∧
    ((frm 0x05#8 []).payload.length ≠ 1 ∧ 15 < (16#8).toNat ∧ (15#8).toNat = (15 : Chan).val) :=
  ⟨asks_takes _ _ _, by decide⟩

theorem witness_RootAndCodeAreExact : 1 ≤ 32768 ∧ 90 ≤ 90 ∧ bigM 90 ≤ 32768 ∧ bigM 0 ≤ 1 := by decide

/-! ### Witnesses: hit list and associator -/

theorem witness_HitListKeepsOrderAndDropRange :
    ([⟨recAt 5 1, false⟩, ⟨recAt 5 2, false⟩, ⟨recAt 6 0, false⟩] : List Entry).Pairwise (fun a b =>
      a.record.arrival < b.record.arrival ∨
        (a.record.arrival = b.record.arrival ∧ a.record.channel ≤ b.record.channel)) ∧
    (61000 + 5000 < 66001 ∧ 66000 ≤ 61000 + 5000) := by decide

/-- A settled arrival in `assocRun`: the horizon stands at its tick, 100000. -/
theorem horizon_of_assocRun (list : List Entry) (o : Option OpenEvent) (till : Nat) :
    (assocRun list o till).horizon = some 100000 := by rfl

theorem witness_HandOverWithNoEventOpen :
    ((assocRun [⟨recAt 16000 3, false⟩] none 16000).inReset = false ∧
      (assocRun [⟨recAt 16000 3, false⟩] none 16000).assoc.openEvent = none ∧
      (assocRun [⟨recAt 16000 3, false⟩] none 16000).hitList = [] ++ ⟨recAt 16000 3, false⟩ :: [] ∧
      (∀ x ∈ ([] : List Entry), x.taken = true) ∧
      (∀ h, (assocRun [⟨recAt 16000 3, false⟩] none 16000).horizon = some h → (recAt 16000 3).arrival < h)) ∧
    ((assocRun [] none 16000).assoc.lockoutUntil ≤ 16000 ∧ 15999 < (assocRun [] none 16000).assoc.lockoutUntil) ∧
    (((assocRun [] none 0).ch 8).cfg.role = .monitor ∧ ((assocRun [] none 0).ch 3).cfg.role ≠ .monitor ∧
      (assocRun [] none 0).chk.policy ≠ .excludePoor) := by
  refine ⟨⟨rfl, rfl, rfl, nofun, fun h e => ?_⟩, by decide, by decide⟩
  cases (horizon_of_assocRun _ _ _).symm.trans e
  decide

theorem witness_HandOverWithinTheWindow :
    ((assocRun [⟨recAt 1000 0, true⟩, ⟨recAt 6000 2, false⟩] (some ⟨1000, 6000, false⟩) 0).inReset = false ∧
      (recAt 6000 2).arrival ≤ (OpenEvent.mk 1000 6000 false).windowEnd ∧
      (assocRun [⟨recAt 1000 0, true⟩, ⟨recAt 6000 2, false⟩] (some ⟨1000, 6000, false⟩) 0).hitList =
        [⟨recAt 1000 0, true⟩] ++ ⟨recAt 6000 2, false⟩ :: [] ∧
      (∀ h, (assocRun [⟨recAt 1000 0, true⟩, ⟨recAt 6000 2, false⟩] (some ⟨1000, 6000, false⟩) 0).horizon = some h →
        (recAt 6000 2).arrival < h)) ∧
    (∃ x ∈ ([⟨recAt 1000 0, true⟩, ⟨recAt 3000 0, false⟩] : List Entry), x.taken = true ∧ x.record.channel = 0) ∧
    (¬∃ x ∈ ([⟨recAt 1000 0, true⟩, ⟨recAt 6000 2, false⟩] : List Entry), x.taken = true ∧ x.record.channel = 2) ∧
    8 ≤ (([0, 1, 2, 3, 4, 5, 6, 7].map fun c => Entry.mk (recAt 1000 c) true).filter (·.taken)).length ∧
    ¬8 ≤ (([0, 1, 2, 3, 4, 5, 6].map fun c => Entry.mk (recAt 1000 c) true).filter (·.taken)).length := by
  refine ⟨⟨rfl, by decide, rfl, fun h e => ?_⟩, by decide, by decide, by decide, by decide⟩
  cases (horizon_of_assocRun _ _ _).symm.trans e
  decide

theorem witness_OpenEventCloses :
    ((assocRun [⟨recAt 1000 0, true⟩, ⟨recAt 6001 4, false⟩] (some ⟨1000, 6000, false⟩) 0).firstWaiting =
        some ⟨recAt 6001 4, false⟩ ∧ (OpenEvent.mk 1000 6000 false).windowEnd < (recAt 6001 4).arrival) ∧
    (∀ x ∈ (assocRun [⟨recAt 1000 0, true⟩] none 0).hitList, x.taken = true) ∧ 100000 ≤ (recAt 100000 0).arrival ∧
    ((assocRun [⟨recAt 1000 0, true⟩] (some ⟨94999, 99999, false⟩) 0).firstWaiting = none ∧
      ∀ h, (assocRun [⟨recAt 1000 0, true⟩] (some ⟨94999, 99999, false⟩) 0).horizon = some h →
        (OpenEvent.mk 94999 99999 false).windowEnd < h) ∧
    ((assocRun [] (some ⟨95000, 100000, false⟩) 0).horizon = some 100000 ∧
      100000 ≤ (OpenEvent.mk 95000 100000 false).windowEnd) ∧ (assocRun [] none 0).assoc.openEvent = none := by
  refine ⟨by decide, by decide, by decide, ⟨by decide, fun h e => ?_⟩, ⟨rfl, by decide⟩, rfl⟩
  cases (horizon_of_assocRun _ _ _).symm.trans e
  decide

/-- The horizon of OpenEventCloses: ARMED with a hit of arrival 100, FREEZING with that hit still to cut, with an offer
that waits, and with neither, IDLE and FROZEN; its value is 100 in the first. -/
theorem witness_HorizonOfOpenEventCloses :
    (hitAt111.ctl.run = .armed ∧ hitAt111.horizon = some 100 ∧ ∃ h, (hitAt111.ch 3).state = .hit h) ∧
    ((inRun hitAt111 .freezing).ctl.run = .freezing ∧ ∃ h, ((inRun hitAt111 .freezing).ch 3).state = .hit h) ∧
    (inRun { State.reset with offers := [recAt 5 1] } .freezing).offers ≠ [] ∧
    ((∀ c h, ((inRun State.reset .freezing).ch c).state ≠ .hit h) ∧ (inRun State.reset .freezing).offers = []) ∧
    State.reset.ctl.run = .idle ∧ (inRun State.reset .frozen).ctl.run = .frozen := by
  refine ⟨⟨rfl, by decide +kernel, _, rfl⟩, ⟨rfl, _, rfl⟩, nofun, ⟨fun c h => ?_, rfl⟩, rfl, rfl⟩
  rw [show ∀ c, ((inRun State.reset .freezing).ch c).state = .off by decide +kernel]
  nofun

theorem witness_CloseNumbersAndRoutes :
    ((assocRun [⟨recAt 50000 4, true⟩] none 0).hitList.filter (·.taken)).map (·.record) = [recAt 50000 4] ∧
    ((assocRun [⟨recAt 1000 0, true⟩, ⟨recAt 1285 1, true⟩] none 0).hitList.filter (·.taken)).map (·.record) =
      recAt 1000 0 :: recAt 1285 1 :: [] ∧
    (OpenEvent.mk 1000 6000 true).guarded = true ∧ (OpenEvent.mk 1000 6000 false).guarded = false ∧
    Locator.reset.placed 0 = false ∧ ({ Locator.reset with geom := some (shell ⟨0, 40, 0, 20⟩) } : Locator).placed 0
      = true ∧
    (([recAt 1000 0, recAt 1285 1, recAt 1290 9].filter fun r =>
      ({ Locator.reset with geom := some (shell ⟨0, 40, 0, 20⟩) } : Locator).placed r.channel).length < 3) ∧
    3 ≤ ([recAt 1000 0, recAt 1285 1, recAt 1281 2].filter fun r =>
      ({ Locator.reset with geom := some (shell ⟨0, 40, 0, 20⟩) } : Locator).placed r.channel).length ∧
    16 ≤ (List.replicate 16 (eventOn 0 [])).length ∧ (List.replicate 15 (eventOn 0 [])).length < 16 := by
  refine ⟨rfl, rfl, rfl, rfl, rfl, rfl, ?_, ?_, ?_, ?_⟩ <;> decide +kernel

theorem witness_AssociationAndRuptureSetTaken :
    State.Takes (inRun (asks 0x0B#8 [0#8, 0#8, 0#8, 0#8, 0#8, 0#8]) .frozen)
      (frm 0x0B#8 [0#8, 0#8, 0#8, 0#8, 0#8, 0#8]) [] ∧
    (inRun (asks 0x0B#8 [0#8, 0#8, 0#8, 0#8, 0#8, 0#8]) .frozen).Configurable ∧
    State.Takes (inRun (asks 0x0D#8 [0#8, 1#8, 17#8, 0#8, 0#8]) .idle) (frm 0x0D#8 [0#8, 1#8, 17#8, 0#8, 0#8]) [] ∧
    (inRun (asks 0x0D#8 [0#8, 1#8, 17#8, 0#8, 0#8]) .idle).Configurable :=
  ⟨asks_takes _ _ _, .inr rfl, asks_takes _ _ _, .inl rfl⟩

/-! ### Witnesses: locator and map -/

/-- A locator with the worked shell loaded. -/
def shellLoc : Locator := { Locator.reset with geom := some (shell ⟨0, 40, 0, 20⟩) }

theorem witness_LocationStartsAndEnds :
    ({ shellLoc with queue := [eventOn 0 []] } : Locator).busy = none ∧
    ({ shellLoc with queue := [eventOn 0 []] } : Locator).queue = eventOn 0 [] :: [] ∧
    ({ shellLoc with queue := [eventOn 0 []] } : Locator).geom = some (shell ⟨0, 40, 0, 20⟩) ∧
    Locator.reset.queue = [] ∧
    ({ shellLoc with busy := some (nineCells 400 ⟨11, 3, 9, 3⟩) } : Locator).busy = some (nineCells 400 ⟨11, 3, 9, 3⟩) ∧
    ({ nineCells 400 ⟨11, 3, 9, 3⟩ with left := 1 } : Locating).left ≠ 0 ∧
    (nineCells 4 ⟨11, 3, 9, 3⟩).left = 0 ∧
    (nineCells 3 ⟨11, 3, 9, 3⟩).rl < (nineCells 3 ⟨11, 3, 9, 3⟩).part.mean ∧
    (nineCells 4 ⟨11, 3, 9, 3⟩).part.mean ≤ (nineCells 4 ⟨11, 3, 9, 3⟩).rl ∧
    (shell ⟨11, 3, 9, 3⟩).exclusion 12 10 = none ∧
    ({ shell ⟨11, 3, 9, 3⟩ with zones := Vector.replicate 8 ⟨true, ⟨12, 1, 10, 1⟩⟩ } : Geometry).exclusion 12 10
      = some 0 := by
  refine ⟨rfl, rfl, rfl, rfl, rfl, by decide, rfl, ?_, ?_, ?_, ?_⟩ <;> decide +kernel

theorem witness_LocationIsTheLeastResidual :
    Rect.Fits ⟨11, 3, 9, 3⟩ 40 20 ∧ Rect.Fits ⟨39, 40, 19, 1⟩ 40 20 ∧
    (nineCells 400 ⟨11, 3, 9, 3⟩).part.quality < 255 ∧
    (nineCells 400 ⟨11, 3, 9, 3⟩).part.mean ≤ (nineCells 400 ⟨11, 3, 9, 3⟩).rl ∧
    (8 < 3 * 3 ∧ 0 < (shell ⟨11, 3, 9, 3⟩).circ ∧ 3999 < (shell ⟨11, 3, 9, 3⟩).circ) ∧
    ((shell ⟨11, 3, 9, 3⟩).placedMembers (nineCells 400 ⟨11, 3, 9, 3⟩).event.members).length = 3 :=
  ⟨⟨by decide, by decide, by decide, by decide⟩, ⟨by decide, by decide, by decide, by decide⟩, by decide +kernel,
    by decide +kernel, by decide, by decide +kernel⟩

theorem witness_GeometrySetLoads :
    State.Takes (inRun (asks 0x07#8 [0#8, 100#8, 0#8, 100#8, 64#8, 32#8, 1#8, 0xF4#8]) .idle)
      (frm 0x07#8 [0#8, 100#8, 0#8, 100#8, 64#8, 32#8, 1#8, 0xF4#8]) [] ∧
    (inRun (asks 0x07#8 [0#8, 100#8, 0#8, 100#8, 64#8, 32#8, 1#8, 0xF4#8]) .idle).Configurable ∧
    ((0#8).toNat * 256 + (99#8).toNat < 100 ∧ 100 ≤ (0#8).toNat * 256 + (100#8).toNat ∧ 4 ≤ (64#8).toNat ∧
      (64#8).toNat ≤ 64 ∧ 1 ≤ (32#8).toNat ∧ (32#8).toNat ≤ 32) := ⟨asks_takes _ _ _, .inl rfl, by decide⟩

theorem witness_SensorWindowAndZoneSet :
    State.Takes (inRun (asks 0x08#8 [15#8, 1#8, 15#8, 159#8, 7#8, 208#8]) .idle)
      (frm 0x08#8 [15#8, 1#8, 15#8, 159#8, 7#8, 208#8]) [] ∧
    (inRun (asks 0x08#8 [15#8, 1#8, 15#8, 159#8, 7#8, 208#8]) .idle).Configurable ∧
    (State.reset.loc.geom = none ∧ shellLoc.geom = some (shell ⟨0, 40, 0, 20⟩)) ∧
    ((15#8).toNat = (15 : Chan).val ∧ 15 < (16#8).toNat ∧ 15 * 256 + 159 < (shell ⟨0, 40, 0, 20⟩).circ ∧
      7 * 256 + 208 ≤ (shell ⟨0, 40, 0, 20⟩).len ∧ (shell ⟨0, 40, 0, 20⟩).circ ≤ 4000 ∧
      (shell ⟨0, 40, 0, 20⟩).len < 2001 ∧ (2#8 : Byte) ≠ 0#8 ∧ (2#8 : Byte) ≠ 1#8 ∧
      (shell ⟨0, 40, 0, 20⟩).nc ≤ (40#8).toNat ∧ (shell ⟨0, 40, 0, 20⟩).nr ≤ (20#8).toNat ∧
      (39#8).toNat < (shell ⟨0, 40, 0, 20⟩).nc ∧ (19#8).toNat < (shell ⟨0, 40, 0, 20⟩).nr) ∧
    ((7#8).toNat = (7 : Fin 8).val ∧ 7 < (8#8).toNat ∧ 1 < (2#8).toNat ∧ (1#8).toNat = true.toNat) :=
  ⟨asks_takes _ _ _, .inl rfl, ⟨rfl, rfl⟩, by decide, by decide⟩

theorem witness_MapAccumulatesOverNeighbourhood :
    (4 ≤ 4 ∧ 3 < 4 ∧ 31 < 32) ∧ 1 * 4 + 3 < beforeRise.cells.length ∧
    ((beforeRise.cells.getD 1 Cell.cleared).level.code < CellLevel.active.code ∧
      (beforeRise.cells.getD 6 Cell.cleared).level.code ≤ (beforeRise.cells.getD 6 Cell.cleared).level.code) ∧
    (3 : Fin 4).val = lineOf .block 4 3 % 4 := by decide

/-- Its clause on PULSE, at reset's tick, is not held: witness_ChecksHeld. -/
theorem witness_LinesFollowTheCells : shellLoc.geom = some (shell ⟨0, 40, 0, 20⟩) ∧ ActMap.reset.cells = [] ∧
    (ActMap.reset.lineOn[(3 : Fin 4)] = true ∧ ActMap.reset.ack[(3 : Fin 4)] = false) ∧
    (({ shortCheck with running := true, nextPulse := 10 } : Check).running = true ∧ shortCheck.kind ≠ .pattern ∧
      shortCheck.pulsers = [] ++ 0 :: [] ∧ shortCheck.removed[(0 : Chan)] = false ∧
      ({ shortCheck with nextPulse := 10 } : Check).nextPulse ≤ 10 ∧ shortCheck.pulse = none) := by decide

theorem witness_ClusterSetAndClears :
    State.Takes (inRun (asks 0x0C#8 [0#8, 5#8, 0#8, 3#8, 0#8, 3#8, 2#8, 15#8, 1#8]) .freezing)
      (frm 0x0C#8 [0#8, 5#8, 0#8, 3#8, 0#8, 3#8, 2#8, 15#8, 1#8]) [] ∧
    (2 < (3#8).toNat ∧ 1 < (2#8).toNat ∧ (1#8).toNat = true.toNat ∧ (2#8).toNat = 2 ∧
      (∀ n : Fin 4, (Vector.replicate 4 true)[n] = (15#8 : Byte).toNat.testBit n.val)) ∧
    State.Takes (inRun (asks 0x11#8 []) .armed) (frm 0x11#8 []) [] ∧ (frm 0x11#8 [0#8]).payload ≠ [] ∧
    State.Takes (inRun (asks 0x12#8 []) .freezing) (frm 0x12#8 []) [] ∧
    (inRun (asks 0x12#8 []) .freezing).ctl.run = .freezing ∧ (inRun (asks 0x12#8 []) .armed).ctl.run ≠ .freezing :=
  ⟨asks_takes _ _ _, by decide, asks_takes _ _ _, by decide, asks_takes _ _ _, rfl, by decide⟩

theorem witness_MapReadGivesEntries :
    State.Takes (inRun (asks 0x13#8 [0#8, 32#8, 0#8, 1#8]) .freezing) (frm 0x13#8 [0#8, 32#8, 0#8, 1#8]) [] ∧
    ((frm 0x13#8 []).payload.length ≠ 4 ∧ (0#8).toNat = 0 ∧ 32 < (33#8).toNat * (1#8).toNat ∧ (32#8).toNat ≠ 0 ∧
      (1#8).toNat ≠ 0 ∧ (32#8).toNat * (1#8).toNat ≤ 32) := ⟨asks_takes _ _ _, by decide⟩

theorem witness_ZoneReadGivesTheTable :
    State.Takes (inRun (asks 0x14#8 []) .freezing) (frm 0x14#8 []) [] ∧ (frm 0x14#8 [0#8]).payload ≠ [] :=
  ⟨asks_takes _ _ _, by decide⟩

/-! ### Witnesses: sensor checks -/

/-- Reset with these channels enabled with their lanes GOOD, and this READY frame. -/
def usableAsk (kind : Byte) (payload : List Byte) : State :=
  (asks kind payload).mapCh fun c x =>
    if c.val < 3 then { x with cfg := { x.cfg with enable := true }, state := .quiet } else x

theorem witness_PulseChecksStart :
    (State.Takes (usableAsk 0x15#8 [1#8, 0#8, 0#8, 6#8, 0#8, 100#8, 1#8, 6#8, 1#8])
      (frm 0x15#8 [1#8, 0#8, 0#8, 6#8, 0#8, 100#8, 1#8, 6#8, 1#8]) []) ∧
    ((usableAsk 0x15#8 []).ctl.run ≠ .freezing ∧ (usableAsk 0x15#8 []).chk.check = none ∧
      (inRun (usableAsk 0x15#8 []) .armed).press.phase ≠ .hold ∧
      ((usableAsk 0x15#8 []).ctl.run = .armed → (usableAsk 0x15#8 []).press.phase = .hold)) ∧
    (checking shortCheck).chk.check ≠ none ∧
    ((frm 0x15#8 []).payload = [] ∧ (List.replicate 7 (0#8 : Byte)).length ≠ 8 ∧
      (List.replicate 9 (0#8 : Byte)).length ≠ 8 ∧ (List.replicate 7 (0#8 : Byte)).length ≠ 6) ∧
    ((4#8 : Byte) ≠ 1#8 ∧ (4#8 : Byte) ≠ 2#8 ∧ (4#8 : Byte) ≠ 3#8 ∧ 15 < (16#8).toNat ∧ 1 < (2#8).toNat ∧
      (0 : Chan).val = (0#8).toNat ∧ (1#8).toNat = Policy.excludePoor.code) ∧
    (((usableAsk 0x15#8 []).ch 0).cfg.enable = true ∧ ((usableAsk 0x15#8 []).ch 0).lane = .good ∧
      ((usableAsk 0x15#8 []).ch 2).cfg.enable = true ∧ (0 * 256 + 6).testBit 2 = true ∧ (2 : Chan).val ≠ (0#8).toNat) ∧
    State.Takes (usableAsk 0x15#8 [2#8, 0#8, 100#8, 1#8, 6#8, 0#8, 3#8])
      (frm 0x15#8 [2#8, 0#8, 100#8, 1#8, 6#8, 0#8, 3#8]) [] ∧
    ((allChans.filter fun c => decide (((usableAsk 0x15#8 []).ch c).cfg.enable = true ∧
      ((usableAsk 0x15#8 []).ch c).cfg.role ≠ .monitor)) = [0, 1, 2]) ∧
    (allChans.filter fun c => decide ((State.reset.ch c).cfg.enable = true)).length < 2 ∧
    2 ≤ (allChans.filter fun c => decide (((usableAsk 0x15#8 []).ch c).cfg.enable = true)).length := by
  refine ⟨⟨rfl, rfl, rfl⟩, ⟨?_, ?_, ?_, ?_⟩, nofun, ?_, ?_, ?_, ⟨rfl, rfl, rfl⟩, ?_, ?_, ?_⟩ <;> decide

/-- The check unit with the worked pattern of 07, 7.6 in slot 2. -/
def patternUnit : CheckUnit :=
  { CheckUnit.reset with patterns := (Vector.replicate 4 []).set 2 [0, 150, -300, 90, 120, 40, 0, 0] }

theorem witness_PatternStartsAndLoads :
    State.Takes (usableAsk 0x15#8 [3#8, 1#8, 2#8, 0#8, 1#8]) (frm 0x15#8 [3#8, 1#8, 2#8, 0#8, 1#8]) [] ∧
    ((usableAsk 0x15#8 []).ctl.run = .idle ∧ (usableAsk 0x15#8 []).chk.check = none) ∧
    (([1#8, 2#8, 0#8] : List Byte).length ≠ 4 ∧ (frm 0x17#8 [2#8, 0#8, 8#8]).payload.length < 4 ∧
      ([0xFF#8] : List Byte).length ≠ 2 * (1#8).toNat ∧ (0#8).toNat = 0 ∧ 128 < (129#8).toNat) ∧
    ((inRun State.reset .armed).ctl.run = .armed ∧ (inRun State.reset .frozen).ctl.run ≠ .idle) ∧
    (3 < (4#8).toNat ∧ (3 : Fin 4).val = (3#8).toNat ∧ CheckUnit.reset.patterns[(2 : Fin 4)] = [] ∧
      patternUnit.patterns[(2 : Fin 4)] ≠ [] ∧ (patternUnit.patterns[(2 : Fin 4)]).length = 8) ∧
    State.Takes (asks 0x17#8 [2#8, 0#8, 8#8, 1#8, 0xFF#8, 0xFE#8]) (frm 0x17#8 [2#8, 0#8, 8#8, 1#8, 0xFF#8, 0xFE#8]) [] ∧
    (([0xFF#8, 0xFE#8] : List Byte) =
        ([-2] : List Sample).flatMap (fun v => [BitVec.ofNat 8 (v.toNat / 256), BitVec.ofNat 8 v.toNat]) ∧
      (1#8).toNat = ([-2] : List Sample).length ∧ (0#8).toNat * 256 + (8#8).toNat = 8) ∧
    (128 < (List.replicate 129 (0 : Sample)).length ∧ (List.replicate 128 (0 : Sample)).length ≤ 128 ∧
      256 < 129 + (List.replicate 128 (0 : Sample)).length ∧ 128 + (List.replicate 128 (0 : Sample)).length ≤ 256) := by
  refine ⟨⟨rfl, rfl, rfl⟩, ⟨?_, ?_⟩, ?_, ?_, ?_, ⟨rfl, rfl, rfl⟩, ?_, ?_⟩ <;> decide +kernel

/-- A running SHORT check with pulser 0 still to come at tick 10. -/
def runningCheck : Check := { shortCheck with running := true, entered := 9, nextPulse := 10 }

/-- The pulse of pulser 0 driven at tick 10, in its window. -/
def somePulse : Pulse := ⟨0, 10, 2, true, Vector.replicate 16 none⟩

theorem witness_GatheringAndPulses :
    ((checking shortCheck).chk.check = some shortCheck ∧ shortCheck.running = false ∧
      (∀ c : Chan, shortCheck.involved[c] = true → shortCheck.removed[c] = false →
        (((checking shortCheck).mapCh fun _ x => { x with state := .testing }).ch c).state = .testing) ∧
      ∃ c : Chan, shortCheck.involved[c] = true ∧ shortCheck.removed[c] = false ∧
        ((checking shortCheck).ch c).state ≠ .testing) ∧
    (runningCheck.running = true ∧ runningCheck.kind ≠ .pattern ∧ runningCheck.pulsers = [] ++ 0 :: [] ∧
      runningCheck.removed[(0 : Chan)] = false ∧ runningCheck.nextPulse ≤ 10 ∧ 9 < runningCheck.nextPulse ∧
      ∀ q, runningCheck.pulse = some q → q.windowOpen = false) ∧
    ({ runningCheck with pulsers := [] } : Check).pulsers = [] ∧
    (({ runningCheck with pulse := some somePulse } : Check).pulse = some somePulse ∧ somePulse.windowOpen = true) := by
  refine ⟨⟨rfl, rfl, ?_, 1, rfl, rfl, ?_⟩, ⟨rfl, ?_, rfl, rfl, ?_, ?_, nofun⟩, rfl, rfl, rfl⟩ <;> decide

/-- Reset, outside ARMED, with this check in progress and the tick counter held. -/
def held (ck : Check) : State := { checking ck with tick := 281474976710655 }

/-- A check that is held: outside ARMED, from 2^48 − 1 on. The tick before, or in ARMED, it moves (R2). -/
theorem witness_ChecksHeld (ck : Check) :
    (held ck).ChecksHeld ∧ (held ck).chk.check = some ck ∧ (held ck).inReset = false ∧ shortCheck.startRun ≠ .armed ∧
    (∃ t, exec (.laneLost 1) (held ck) = .next t) ∧ ¬(inRun (held ck) .armed).ChecksHeld ∧
    ¬State.ChecksHeld { checking ck with tick := 281474976710654 } ∧ ¬(checking ck).ChecksHeld :=
  ⟨⟨Nat.le_refl _, nofun⟩, rfl, rfl, nofun, ⟨_, rfl⟩, fun h => h.2 rfl,
    fun h => absurd (show 281474976710655 ≤ 281474976710654 from h.1) (by decide),
    fun h => absurd (show 281474976710655 ≤ 0 from h.1) (by decide)⟩

/-- At the hold, outside ARMED: a gathered check stays in GATHERING, the loss of channel 1 does not remove it, and CHECK
ABORT ends the check (R2, R136, R148). -/
theorem test_held_check_stays :
    (got (fun s => s.chk.check.map (·.running))
      (exec .gatheringComplete ((held shortCheck).mapCh fun _ x => { x with state := .testing })),
    got (fun s => s.chk.check.map (·.removed[(1 : Chan)]))
      (exec (.laneLost 1) ((held shortCheck).setCh 1 { quietCh with state := .testing, missingRun := 4 })),
    got (·.chk.check.isSome)
      (exec .checkAbort { asks 0x16#8 [] with chk := (held shortCheck).chk, tick := 281474976710655 })) =
    (some (some false), some (some false), some false) := by decide

/-- At the hold a claimed channel still goes from SETTLING to TESTING, but one that has recovered from FAULT goes to
QUIET (R20, R28). -/
theorem test_held_check_settling : [false, true].map (fun left =>
    got (fun s => (s.ch 1).state) (exec (.settlingComplete 1)
      ((held shortCheck).setCh 1 { quietCh with state := .settling, settleDue := true, leftCheck := left }))) =
    [some .testing, some .quiet] := by decide

/-- Channel 1 in TESTING in the window of that pulse, at this tick. -/
def listening (tick : Nat) : State :=
  State.setCh
    { checking { runningCheck with pulse := some somePulse } with tick := tick } 1 { quietCh with state := .testing }

theorem witness_ListeningMeasuresPairs :
    (¬(listening 110).ChecksHeld ∧ ¬(listening 111).ChecksHeld) ∧
    ((listening 110).inReset = false ∧ ((listening 110).ch 1).frameSeen = false ∧
      ((listening 110).ch 1).state = .testing ∧ ((listening 110).ch 1).lane = .good) ∧ (listening 110).NothingDue 1 ∧
    ((listening 110).chk.check = some { runningCheck with pulse := some somePulse } ∧ runningCheck.running = true ∧
      somePulse.windowOpen = true ∧ runningCheck.involved[(1 : Chan)] = true ∧
      runningCheck.removed[(1 : Chan)] = false ∧ (1 : Chan) ≠ somePulse.pulser) ∧
    (somePulse.t0 < (listening 110).tick ∧ (listening 110).tick ≤ somePulse.t0 + runningCheck.lw) ∧
    (somePulse.t0 + runningCheck.lw < (listening 111).tick ∧ (listening 10).tick ≤ somePulse.t0 ∧
      (listening 109).tick < somePulse.t0 + runningCheck.lw) ∧
    ({ somePulse with windowOpen := false } : Pulse).windowOpen = false :=
  ⟨⟨fun h => absurd h.1 (by decide), fun h => absurd h.1 (by decide)⟩, ⟨rfl, rfl, rfl, rfl⟩,
    ⟨by decide, rfl, nofun, nofun, fun _ => by decide, fun _ => by decide⟩,
    ⟨rfl, rfl, rfl, rfl, rfl, by decide⟩, by decide, by decide, rfl⟩

/-- A LONG check that is over: its pulser has gone out and its window has closed, ring-down ended. -/
def overCheck : Check :=
  { runningCheck with
    kind := .long, adopt := true, pulsers := [], pulse := some { somePulse with windowOpen := false }
    pairs := ((Vector.replicate 256 .notMeasured).set 1 (.heard 672 53)).set 2 .silent }

theorem witness_CheckCompletes : ¬State.ChecksHeld { checking overCheck with tick := 9 } ∧
    (({ checking overCheck with tick := 9 } : State).chk.check = some overCheck ∧ overCheck.kind ≠ .pattern ∧
      (∀ c ∈ overCheck.pulsers, overCheck.removed[c] = true) ∧
      ∀ q, overCheck.pulse = some q → q.windowOpen = false ∧ overCheck.nextPulse ≤ 9 + 1) ∧
    (overCheck.kind = .long ∧ CheckUnit.reset.baselineHeld = false ∧ shortCheck.kind ≠ .long) ∧
    (overCheck.pairs[pairIndex 0 1] = .heard 672 53 ∧ overCheck.pairs[pairIndex 0 2] = .silent ∧
      overCheck.pairs[pairIndex 0 3] = .notMeasured) ∧
    ((shell ⟨0, 40, 0, 20⟩).pos[(0 : Chan)] = some ⟨1200, 1000⟩ ∧
      (shell ⟨0, 40, 0, 20⟩).pos[(1 : Chan)] = some ⟨1600, 1000⟩ ∧
      (shell ⟨0, 40, 0, 20⟩).dist ⟨1200, 1000⟩ ⟨1600, 1000⟩ ≠ 0) ∧
    (overCheck.removed[(1 : Chan)] = false ∧ (∃ p : Chan, overCheck.pairs[pairIndex p 1] ≠ .notMeasured) ∧
      ∀ p : Chan, ¬overCheck.pairs[pairIndex p 3] ≠ .notMeasured) ∧
    (6 < 60 - 53 ∧ ¬6 < 59 - 53) ∧ (shell ⟨0, 40, 0, 20⟩).dist ⟨1200, 1000⟩ ⟨1200, 1000⟩ = 0 ∧
    (runningCheck.kind ≠ .pattern ∧ (∃ c ∈ runningCheck.pulsers, runningCheck.removed[c] = false) ∧
      somePulse.windowOpen = true ∧ 8 + 1 < overCheck.nextPulse) ∧
    (overCheck.adopt = true ∧ State.reset.ctl.run = .idle ∧ 3 ≤ [2976, 2994, 2985].length ∧ [2976].length < 3) := by
  refine ⟨fun h => absurd h.1 ?_, ⟨rfl, ?_, nofun, fun q e => ?_⟩, ?_, ?_, ?_, ⟨?_, ⟨0, ?_⟩, ?_⟩, ?_, ?_, ?_, ?_⟩
  case refine_3 => cases e; decide
  all_goals decide +kernel

/-- A running PATTERN check of slot 2 in channel 5, entered at tick 100, with this replay. -/
def patternCheck (r : Replay) : Check :=
  { shortCheck with
    kind := .pattern, running := true, entered := 100, involved := (Vector.replicate 16 false).set 5 true
    pulsers := [], slot := 2, replay := (Vector.replicate 16 ⟨0, none, none⟩).set 5 r }

/-- The worked replay of 07, 7.6, with the last count at tick 105. -/
def replayHit : Hit := ⟨102, plainStamp, 105, 2, 300, 103, false, 135000, 135000, false⟩

theorem witness_PatternReplaysToOutcomes :
    ((checking (patternCheck ⟨0, none, none⟩)).chk.check = some (patternCheck ⟨0, none, none⟩) ∧
      (patternCheck ⟨0, none, none⟩).kind = .pattern ∧ (patternCheck ⟨0, none, none⟩).running = true ∧
      (patternCheck ⟨0, none, none⟩).involved[(5 : Chan)] = true ∧
      (patternCheck ⟨0, none, none⟩).removed[(5 : Chan)] = false ∧
      ((patternCheck ⟨0, none, none⟩).replay[(5 : Chan)]).outcome = none ∧
      ((patternCheck ⟨0, none, none⟩).replay[(5 : Chan)]).hit = none) ∧
    (∀ c : Chan, (patternCheck ⟨0, none, some .silent⟩).involved[c] = true →
      ((patternCheck ⟨0, none, some .silent⟩).replay[c]).outcome ≠ none) ∧
    ((patternUnit.patterns[(2 : Fin 4)]).length ≤ 108 - 100 ∧ 107 - 100 < (patternUnit.patterns[(2 : Fin 4)]).length) ∧
    ((patternCheck ⟨120, some replayHit, none⟩).replay[(5 : Chan)]).hit = some replayHit ∧
    (105 + workedCfg.hdt ≤ 110 ∧ 105 + workedCfg.hdt ≤ 102 + workedCfg.maxDur ∧ 109 < 105 + workedCfg.hdt ∧
      109 < 102 + workedCfg.maxDur ∧ 102 + 7 ≤ 109 ∧ 102 + 7 < 105 + workedCfg.hdt) ∧
    (bigM 40 ≤ 150 ∧ 0 < bigM 40 ∧ ¬bigM 40 ≤ 90) := by
  refine ⟨⟨rfl, rfl, rfl, rfl, rfl, rfl, rfl⟩, ?_, ?_, rfl, ?_, ?_⟩ <;> decide

/-- Reset at tick 107 with that PATTERN check. -/
def replaying : State :=
  { State.reset with tick := 107, chk := { patternUnit with check := some (patternCheck ⟨0, none, none⟩) } }

/-- No outcome and no other step is due on a TICK of that check. -/
theorem witness_PatternTickWithNothingDue :
    replaying.tick + 1 < 281474976710655 ∧ ¬replaying.ChecksHeld ∧ replaying.NothingToClose ∧ ∀ c, exec (.patternOutcome c) replaying = .next replaying := by
  have e : ∀ c, replaying.sampled.ch c = { Channel.reset with frameSeen := true } := by decide
  refine ⟨by decide, fun h => absurd h.1 (by decide), ⟨fun c => ?_, rfl, nofun⟩, fun c => by fin_cases c <;> rfl⟩
  constructor <;> rw [e] <;> first | decide | nofun

/-- In IDLE at this tick with that PATTERN check, entered at tick 2^48 − 12: from 2^48 − 4 on its slot of 8 samples has
passed. -/
def atTheHold (tick : Nat) : State :=
  { State.reset with
    tick := tick
    chk := { patternUnit with check := some { patternCheck ⟨0, none, none⟩ with entered := 281474976710644 } } }

/-- The clauses of TickCountsToItsLimit where the counter comes to hold, and while it holds. -/
theorem witness_TickAtTheHold :
    (281474976710655 ≤ (atTheHold 281474976710654).tick + 1 ∧ (atTheHold 281474976710654).ctl.run ≠ .armed ∧
      ¬(atTheHold 281474976710654).ChecksHeld) ∧ (atTheHold 281474976710655).ChecksHeld :=
  ⟨⟨Nat.le_refl _, nofun, fun h => absurd (show 281474976710655 ≤ 281474976710654 from h.1) (by decide)⟩,
    Nat.le_refl _, nofun⟩

/-- A TICK at 2^48 − 2 decides the outcome that is due; one at 2^48 − 1 leaves the check as it is (R2, R146). -/
theorem test_tick_at_the_hold : [281474976710654, 281474976710655].map (fun tick =>
    got (fun s => (s.tick, s.chk.check.map fun ck => (ck.replay[(5 : Chan)]).outcome))
      (exec .tick (atTheHold tick))) =
    [some (281474976710655, some (some .silent)), some (281474976710655, some none)] := by decide +kernel

theorem witness_CheckAbortReleases :
    State.Takes (asks 0x16#8 []) (frm 0x16#8 []) [] ∧ (frm 0x16#8 [0#8]).payload ≠ [] ∧
    (asks 0x16#8 []).chk.check = none ∧ (checking runningCheck).chk.check = some runningCheck :=
  ⟨asks_takes _ _ .idle, by decide, rfl, rfl⟩

theorem witness_BaselineReadsServe :
    State.Takes (inRun (asks 0x18#8 [1#8]) .freezing) (frm 0x18#8 [1#8]) [] ∧
    State.Takes (inRun (asks 0x18#8 [0#8]) .freezing) (frm 0x18#8 [0#8]) [] ∧
    ((frm 0x18#8 []).payload.length ≠ 1 ∧ (2#8 : Byte) ≠ 0#8 ∧ (2#8 : Byte) ≠ 1#8) ∧
    (CheckUnit.reset.latest = none ∧ ∃ vel : Nat → Nat, ∀ i : Fin 256, vel i.val =
      match ((Vector.replicate 256 (PairResult.mk .notMeasured .absent false))[i]).vel with
      | .absent => 0
      | .valid _ => 1
      | .invalid _ => 2) :=
  ⟨asks_takes _ _ _, asks_takes _ _ _, by decide, rfl, fun _ => 0, by decide +kernel⟩

/-! ### Witnesses: run control, link and invariants -/

theorem witness_StopFreezesAndTheDrainEnds :
    State.Takes (inRun (asks 0x10#8 []) .armed) (frm 0x10#8 []) [] ∧ (inRun (asks 0x10#8 []) .armed).ctl.run = .armed ∧
    (inRun (asks 0x10#8 []) .frozen).ctl.run ≠ .armed ∧ (frm 0x10#8 [0#8]).payload ≠ [] ∧
    ((inRun State.reset .freezing).ctl.run = .freezing ∧
      (∀ c h, ((inRun State.reset .freezing).ch c).state ≠ .hit h) ∧ (inRun State.reset .freezing).offers = [] ∧
      (inRun State.reset .freezing).hitList = [] ∧ (inRun State.reset .freezing).assoc.openEvent = none ∧ (inRun State.reset .freezing).loc.queue = [] ∧
      (inRun State.reset .freezing).loc.busy = none) ∧
    (∃ c h, ((inRun hitAt111 .freezing).ch c).state = .hit h) ∧ ([recAt 0 0] : List HitRec) ≠ [] ∧
    State.reset.ctl.run ≠ .freezing :=
  ⟨asks_takes _ _ _, rfl, by decide, by decide, ⟨rfl, reset_no_hit, rfl, rfl, rfl, rfl, rfl⟩, ⟨3, _, rfl⟩, by decide,
    by decide⟩

theorem witness_ArmByItsTests :
    State.Takes (inRun (asks 0x0F#8 [0#8]) .idle) (frm 0x0F#8 [0#8]) [] ∧
    State.Takes (inRun (asks 0x0F#8 [1#8]) .frozen) (frm 0x0F#8 [1#8]) [] ∧
    (inRun (asks 0x0F#8 [0#8]) .idle).Configurable ∧ (asks 0x0F#8 [0#8]).chk.check = none ∧
    (inRun (asks 0x0F#8 [1#8]) .frozen).ctl.run = .frozen ∧ (2#8 : Byte) ≠ 0#8 ∧ (2#8 : Byte) ≠ 1#8 ∧
    (asks 0x0F#8 [1#8]).tick ≠ 281474976710655 ∧
    ({ asks 0x0F#8 [1#8] with tick := 281474976710655 } : State).tick = 281474976710655 :=
  ⟨asks_takes _ _ _, asks_takes _ _ _, .inl rfl, rfl, rfl, by decide, by decide, by decide, rfl⟩

theorem witness_RunControlSetBack :
    State.Takes (inRun (asks 0x03#8 []) .freezing) (frm 0x03#8 []) [] ∧
    State.Takes (inRun (asks 0x0F#8 [0#8]) .frozen) (frm 0x0F#8 [0#8]) [] ∧
    (inRun (asks 0x0F#8 [0#8]) .frozen).Configurable ∧ (asks 0x0F#8 [0#8]).chk.check = none :=
  ⟨asks_takes _ _ _, asks_takes _ _ _, .inr rfl, rfl⟩

theorem witness_ResetsTaken :
    State.Takes (inRun (asks 0x03#8 []) .armed) (frm 0x03#8 []) [] ∧ (frm 0x03#8 [0#8]).payload ≠ [] ∧
    State.reset.inReset = false ∧ ({ State.reset with inReset := true } : State).inReset = true :=
  ⟨asks_takes _ _ _, by decide, rfl, rfl⟩

theorem witness_IdentifyServed :
    State.Takes (inRun (asks 0x01#8 []) .armed) (frm 0x01#8 []) [] ∧ (frm 0x01#8 [0#8]).payload ≠ [] ∧
    (Instr.tick ≠ .fullReset ∧ ∀ b, Instr.tick ≠ .fullResetEnd b) ∧ ∃ t, exec .tick State.reset = .next t :=
  ⟨asks_takes _ _ _, by decide, ⟨by decide, nofun⟩, _, rfl⟩

theorem witness_StatusServedAndUnknownAnswered :
    State.Takes (inRun (asks 0x02#8 []) .freezing) (frm 0x02#8 []) [] ∧ (frm 0x02#8 [0#8]).payload ≠ [] ∧
    ((frm 0#8 []).kind = 0#8 ∧ 0x18 < (frm 0x19#8 []).kind.toNat) := ⟨asks_takes _ _ _, by decide, by decide⟩

theorem witness_ConfigRequestsRefused :
    (State.Takes (inRun (asks 0x0D#8 [0#8, 1#8, 2#8, 0#8, 0#8]) .armed) (frm 0x0D#8 [0#8, 1#8, 2#8, 0#8, 0#8]) []) ∧
    (frm 0x0D#8 [0#8, 1#8, 2#8, 0#8, 0#8]).payload.length = 5 ∧ (frm 0x0D#8 []).payload.length ≠ 5 ∧
    (inRun State.reset .freezing).ctl.run = .freezing ∧ (inRun State.reset .armed).ctl.run = .armed ∧
    State.Takes (inRun (asks 0x08#8 [0#8, 0#8, 0#8, 0#8, 0#8, 0#8]) .armed)
      (frm 0x08#8 [0#8, 0#8, 0#8, 0#8, 0#8, 0#8]) [] :=
  ⟨asks_takes _ _ _, rfl, by decide, rfl, rfl, asks_takes _ _ _⟩

theorem witness_ReceiverReadsFrames :
    State.reset.inReset = false ∧ State.reset.link.rx = .hunt ∧
    ({ Link.reset with ready := [frm 1#8 []] } : Link).ready.length < 2 ∧ 0xC3#8 ∉ [0x3C#8, 0x00#8] ∧
    (List.replicate 1020 (0xC3#8 : Byte)).length ≤ 1020 :=
  ⟨rfl, rfl, by decide, by decide, by rw [List.length_replicate]⟩

/-- The byte clauses of ReceiverReadsFrames in the receiver's other states: SYNC, FRAME before and after the length field,
with the last CRC byte to come, and with a TRUNCATED due; BREAK. -/
theorem witness_BytesOfReceiverReadsFrames :
    (RxState.sync = .sync ∧ RxState.brk = .brk ∧ RxState.frame [] = .frame [] ∧ 49999 < 50000 ∧ 50000 ≤ 50000) ∧
    ([] : List Byte).length < 3 ∧ Link.reset.ready.length < 2 ∧
    (([1#8, 7#8, 0#8] : List Byte) ++ [2#8] = 1#8 :: 7#8 :: 0#8 :: 2#8 :: [] ∧
      2 = (0#8).toNat * 256 + (2#8).toNat ∧ 2 ≤ 1020 ∧ ([] : List Byte).length < 2 + 2) ∧
    ∃ c1 c0 : Byte, ([1#8, 7#8, 0#8, 0#8, c1] : List Byte) ++ [c0] = 1#8 :: 7#8 :: 0#8 :: 0#8 :: ([] ++ [c1, c0]) ∧
      c1.toNat * 256 + c0.toNat = (crc16 [1#8, 7#8, 0#8, 0#8]).toNat := by
  refine ⟨by decide, by decide, by decide, by decide, BitVec.ofNat 8 ((crc16 [1#8, 7#8, 0#8, 0#8]).toNat / 256),
    BitVec.ofNat 8 (crc16 [1#8, 7#8, 0#8, 0#8]).toNat, ?_⟩
  decide +kernel

/-- R169: in SYNC a second C3h stays, 3Ch enters FRAME, another byte returns to HUNT. -/
theorem test_sync_bytes :
    got (·.link.rx) (exec (.frameReceived [0xC3#8, 0xC3#8, 0x3C#8]) State.reset) = some (.frame []) ∧
    got (·.link.rx) (exec (.frameReceived [0xC3#8, 0x00#8, 0x3C#8]) State.reset) = some .hunt := by decide +kernel

theorem witness_ReceiveErrorsDiscard :
    (State.reset.inReset = false ∧ State.reset.link.rx = .hunt ∧ State.reset.link.ready.length < 2) ∧
    (([] : List Byte).length = (0#8).toNat * 256 + (0#8).toNat ∧
      (0#8).toNat * 256 + (0#8).toNat ≠ (crc16 [1#8, 7#8, 0#8, 0#8]).toNat) ∧
    (2 ≤ [frm 1#8 [], frm 1#8 []].length ∧ 1020 < (3#8).toNat * 256 + (0xFD#8).toNat) ∧
    (RxState.frame [1#8] = .frame [1#8] ∧ 50000 ≤ 50000 ∧ 49999 < 50000 ∧ ∀ got, RxState.hunt ≠ .frame got) ∧
    (RxState.hunt ≠ .brk ∧ RxState.hunt ≠ .reset ∧ RxState.brk = .brk ∧ RxState.reset = .reset) := by
  refine ⟨⟨rfl, rfl, ?_⟩, ?_, ?_, ⟨rfl, ?_, ?_, nofun⟩, ?_⟩ <;> decide +kernel

/-- The defaults with a TICK waiting: a state that meets the premises of the invariants' statements. -/
def ticking : State := { State.defaults with pending := [.tick] }

theorem witness_StepsKeepTheBounds :
    (∃ t, step ticking = .next t) ∧ ticking.QueuesBounded ∧ ticking.CountersBounded ∧ ticking.GridLegal := by
  have h : ∀ c, ticking.ch c = Channel.reset := by decide
  refine ⟨⟨_, rfl⟩, ⟨by decide, by decide, by decide, by decide, by decide, by decide, by decide⟩,
    ⟨fun c => ?_, by decide, nofun, by decide, by decide, by decide, by decide⟩, ⟨rfl, nofun, by decide⟩⟩
  rw [h]; exact ⟨by decide, by decide, by decide⟩

theorem witness_StepsKeepChannelsAndEvents :
    (∃ t, step ticking = .next t) ∧ ticking.ChannelsLegal ∧ ticking.EventsLegal ∧ ticking.ListLegal := by
  have h : ∀ c, ticking.ch c = Channel.reset := by decide
  refine ⟨⟨_, rfl⟩, ⟨?_, ?_, ?_, ?_, fun h => absurd rfl h, ?_, by decide, nofun, nofun⟩,
    ⟨by decide, by decide, by decide, nofun, by decide, fun _ => ⟨rfl, rfl, rfl, rfl⟩⟩, ⟨.nil, .nil, nofun⟩⟩
  · intro c; rw [h]; decide
  · intro c; rw [h]; decide
  · intro c k e; rw [h] at e; cases e
  · intro c k e; rw [h] at e; cases e
  · intro c e; rw [h] at e; cases e

theorem witness_RunMovesOnlyAsListed :
    got (·.ctl.run) (exec .arm (inRun (asks 0x0F#8 [0#8]) .idle)) = some .armed ∧
    got (·.ctl.run) (exec .stop (inRun (asks 0x10#8 []) .armed)) = some .freezing ∧
    got (·.ctl.run) (exec .drainComplete (inRun State.reset .freezing)) = some .frozen ∧
    got (·.ctl.run) (exec .resetRun (inRun (asks 0x03#8 []) .frozen)) = some .idle := by decide +kernel

end Sys2Proof.Tests
end

section
/-! PROOFS. Pressure scaling (01, 1.2): the clamp of R5 has no effect on a code the converter can deliver. -/

namespace Sys2Proof.Machine

/-- A 12-bit code lies less than 4096 above any zero code, so the quotient stays within the span (R5). -/
theorem Pressure.quotient_le_span (p : Pressure) (code : Code) :
    (code.toNat - p.zero) * p.span / 4096 ≤ p.span := by
  have above : code.toNat - p.zero ≤ 4096 := by have := code.isLt; omega
  exact Nat.div_le_of_le_mul (Nat.mul_le_mul_right p.span above)

theorem Pressure.scale_of_le_zero (p : Pressure) {code : Nat} (h : code ≤ p.zero) : p.scale code = 0 := if_pos h

theorem Pressure.scale_of_zero_lt (p : Pressure) {code : Nat} (h : p.zero < code) :
    p.scale code = min p.span ((code - p.zero) * p.span / 4096) := if_neg (Nat.not_le.mpr h)

/-- The span bounds the pressure of every number, within 12 bits or not: this is the clamp itself (R5). -/
theorem Pressure.scale_le_span (p : Pressure) (code : Nat) : p.scale code ≤ p.span := by
  rcases Nat.lt_or_ge p.zero code with above | atOrBelow
  · rw [p.scale_of_zero_lt above]
    exact Nat.min_le_left _ _
  · rw [p.scale_of_le_zero atOrBelow]
    exact Nat.zero_le _

end Sys2Proof.Machine

namespace Sys2Proof

open Machine

/-- Settles O4: at or below the zero code by the first branch of the scaling; above it the clamp takes the quotient,
which is within the span already. -/
theorem pressureIsScaled : Obligations.PressureIsScaled := by
  intro p code
  refine ⟨?_, p.scale_le_span code.toNat⟩
  split
  · next atOrBelow => exact p.scale_of_le_zero atOrBelow
  · next notBelow =>
    rw [p.scale_of_zero_lt (Nat.not_le.mp notBelow)]
    exact Nat.min_eq_right (p.quotient_le_span code)

end Sys2Proof
end

section
/-! PROOFS. How a request row takes its frame (09, R173 to R175), and CHANNEL GET (02, R26). -/

namespace Sys2Proof.Machine

/-! ### The take of a READY frame -/

@[simp] theorem State.withReady_ch (s : State) (rest : List Frame) (c : Chan) : (s.withReady rest).ch c = s.ch c := rfl
@[simp] theorem State.withReady_chk (s : State) (rest : List Frame) : (s.withReady rest).chk = s.chk := rfl

/-- Freeing the older frame's slot leaves the frames behind it READY (R170, R173). -/
theorem State.freeSlot_of_ready {s : State} {f : Frame} {rest : List Frame} (older : s.link.ready = f :: rest) :
    s.freeSlot = s.withReady rest := by
  simp only [State.freeSlot, State.withReady, older, List.tail_cons]

/-- A row whose frame the handler can take answers what its rule makes of the payload, asked with the slot freed
(R173, R174). -/
theorem State.Takes.answers {s : State} {f : Frame} {rest : List Frame} (takes : s.Takes f rest) {i : Instr}
    {isRow : Frame → Bool} {act : List Byte → State → Answer} (row : exec i s = live (State.handle isRow act) s)
    (ofRow : isRow f = true) {s1 : State} {r : Result} {data : List Byte}
    (rule : act f.payload (s.withReady rest) = (s1, r, data)) : Answers i s f s1 r data := by
  have taken : s.request isRow = some f := State.request_of_ready takes.slotEmpty takes.older ofRow
  have handled : State.handle isRow act s = s1.answer f r data := by
    simp only [State.handle, taken, State.freeSlot_of_ready takes.older, rule]
  unfold Answers
  rw [row, live_of_running _ takes.running, handled]

/-! ### The rule of CHANNEL GET, a case each -/

theorem channelGetRule_of_length {payload : List Byte} (bad : payload.length ≠ 1) (s : State) :
    channelGetRule payload s = refuse s .format := by
  match payload with
  | [] => rfl
  | [_] => exact absurd rfl bad
  | _ :: _ :: _ => rfl

theorem channelGetRule_of_above {b : Byte} (above : 15 < b.toNat) (s : State) :
    channelGetRule [b] s = refuse s .range := dif_neg (by omega)

theorem channelGetRule_of_channel {b : Byte} {c : Chan} (named : b.toNat = c.val) (s : State) :
    channelGetRule [b] s = (s, .done, s.channelData c) := by
  have inRange : b.toNat < 16 := named ▸ c.isLt
  have channel : (⟨b.toNat, inRange⟩ : Chan) = c := Fin.ext named
  exact (dif_pos inRange).trans (by rw [channel])

/-! ### The arrival that CHANNEL GET reports -/

theorem Channel.holdsAt_of_hit {x : Channel} {h : Hit} (inHit : x.state = .hit h) : x.holdsAt = some h.arrival := by
  simp only [Channel.holdsAt, inHit]

theorem Channel.holdsAt_of_no_hit {x : Channel} (noHit : ∀ h, x.state ≠ .hit h) : x.holdsAt = none := by
  unfold Channel.holdsAt
  split
  · next h inHit => exact absurd inHit (noHit h)
  · rfl

end Sys2Proof.Machine

namespace Sys2Proof

open Machine

/-- Settles O23: the rule's three cases, none of which asks the run state; the reply is laid out field by field, its
last field by whether the channel has a hit in progress. -/
theorem channelGetReports : Obligations.ChannelGetReports := by
  intro s f rest takes isGet
  have row : exec .channelGet s = live (State.handle (kindIs 0x05#8) channelGetRule) s := rfl
  have ofRow : kindIs 0x05#8 f = true := beq_iff_eq.mpr isGet
  refine ⟨fun bad => takes.answers row ofRow (channelGetRule_of_length bad _), fun b one => ⟨fun above => ?_, ?_⟩⟩
  · refine takes.answers row ofRow ?_
    rw [one]
    exact channelGetRule_of_above above _
  · rintro c x named rfl
    have enabled : (s.ch c).cfg.enable.toNat = if (s.ch c).cfg.enable then 1 else 0 := Bool.cond_eq_ite ..
    refine takes.answers row ofRow ?_
    rw [one, channelGetRule_of_channel named]
    simp only [State.channelData, ChanCfg.bytes, State.withReady_ch, State.withReady_chk, ← enabled, List.append_assoc]
    split
    · next h inHit => rw [Channel.holdsAt_of_hit inHit, Option.getD_some]
    · next noHit => rw [Channel.holdsAt_of_no_hit noHit, Option.getD_none]

end Sys2Proof
end

section
/-! PROOFS. ZONE READ (06, R129), with the rule of a request that has no payload (09, R175). -/

namespace Sys2Proof.Machine

/-! ### A request without a payload, a case each -/

@[simp] theorem noPayload_nil (act : State → Answer) (s : State) : noPayload act [] s = act s := rfl

theorem noPayload_of_ne_nil (act : State → Answer) {payload : List Byte} (given : payload ≠ []) (s : State) :
    noPayload act payload s = refuse s .format := by
  match payload with
  | [] => exact absurd rfl given
  | _ :: _ => rfl

/-! ### The zone table that ZONE READ reports -/

@[simp] theorem State.withReady_map (s : State) (rest : List Frame) : (s.withReady rest).map = s.map := rfl

theorem zoneReadRule_nil (s : State) :
    zoneReadRule [] s = (s, .done, allChans.flatMap fun c => zoneBytes s.map.zones[c]) := noPayload_nil _ s

theorem zoneReadRule_of_ne_nil {payload : List Byte} (given : payload ≠ []) (s : State) :
    zoneReadRule payload s = refuse s .format := noPayload_of_ne_nil _ given s

end Sys2Proof.Machine

namespace Sys2Proof

open Machine

/-- Settles O39: the rule's two cases, neither of which asks the run state; the take of the frame leaves the map as it
is, so the table sent is the one that stood before it. -/
theorem zoneReadGivesTheTable : Obligations.ZoneReadGivesTheTable := by
  intro s f rest takes isRead
  have row : exec .zoneRead s = live (State.handle (kindIs 0x14#8) zoneReadRule) s := rfl
  have ofRow : kindIs 0x14#8 f = true := beq_iff_eq.mpr isRead
  refine ⟨fun given => takes.answers row ofRow (zoneReadRule_of_ne_nil given _), fun empty => ?_⟩
  refine takes.answers row ofRow ?_
  rw [empty, zoneReadRule_nil]
  simp only [State.withReady_map, zoneBytes]

end Sys2Proof
end

section
/-! PROOFS. What a full reset, a run reset and both armings leave in run control (08, R165). -/

namespace Sys2Proof.Machine

@[simp] theorem State.withReady_tick (s : State) (rest : List Frame) : (s.withReady rest).tick = s.tick := rfl
@[simp] theorem State.withReady_ctl (s : State) (rest : List Frame) : (s.withReady rest).ctl = s.ctl := rfl

/-! ### Run control at an entry to FREEZING (R156) -/

@[simp] theorem State.setFreezing_ctl (s : State) (w : FreezeReason) (k : RunCause) (d : RunDetail) :
    (s.setFreezing w k d).ctl = { s.ctl with run := .freezing, freeze := some w } := by
  simp only [State.setFreezing, State.abortCheck_ctl, State.notify_ctl, State.mapCh_ctl, State.setFreeze]

/-- The cuts at the entry and the offers taken after them are no business of run control. -/
@[simp] theorem State.enterFreezing_ctl (s : State) (w : FreezeReason) (k : RunCause) (d : RunDetail) :
    (s.enterFreezing w k d).ctl = { s.ctl with run := .freezing, freeze := some w } := by
  simp only [State.enterFreezing, State.finishCuts_ctl, State.cutAll_ctl, State.setFreezing_ctl]

/-! ### Run control after each of the four occasions -/

@[simp] theorem State.restart_ctl (s : State) (run : RunState) : (s.restart run).ctl = s.ctl.restart run := rfl
@[simp] theorem State.resume_ctl (s : State) : s.resume.ctl = s.ctl.restart .armed := rfl

theorem State.fullResetEnd_ctl (baud : BitVec 2) (s : State) :
    (s.fullResetEnd baud).ctl = { RunCtl.reset with runBefore := s.ctl.runBefore } := State.tellRun_ctl ..

/-- The cut hits and the offers that the run reset takes first (log 34) leave run control alone. -/
@[simp] theorem State.resetRun_ctl (s : State) : s.resetRun.ctl = s.ctl.restart .idle := by
  simp only [State.resetRun, State.tellRun_ctl, State.restart_ctl, State.takeOffers_ctl, State.lastCuts_ctl]

@[simp] theorem State.armFresh_ctl (s : State) : s.armFresh.ctl = s.ctl.restart .armed := State.tellRun_ctl ..

/-- A tick kept below its maximum arms the run; one at the maximum freezes it at once (R154). -/
theorem State.armResume_ctl (s : State) :
    s.armResume.ctl = if s.tick = Config.tickMax then { s.ctl.restart .freezing with freeze := some .timeLimit }
      else s.ctl.restart .armed := by
  unfold State.armResume
  split
  · rw [State.enterFreezing_ctl, State.tellRun_ctl, State.resume_ctl, RunCtl.restart, RunCtl.restart]
  · rw [State.tellRun_ctl, State.resume_ctl]

/-! ### The armings where they are taken (R152) -/

/-- With no check in progress, IDLE and FROZEN pass the tests that both armings share. -/
theorem State.armTest_of_configurable {s : State} (free : s.Configurable) (noCheck : s.chk.check = none) :
    s.armTest = none := by
  rcases free with idle | frozen
  · simp [State.armTest, idle, noCheck]
  · simp [State.armTest, frozen, noCheck]

theorem armRule_fresh {s : State} (tested : s.armTest = none) : armRule [0#8] s = (s.armFresh, .done, []) := by
  simp [armRule, tested]

theorem armResumeRule_of_frozen {s : State} (tested : s.armTest = none) (frozen : s.ctl.run = .frozen)
    (payload : List Byte) : armResumeRule payload s = (s.armResume, .done, []) := by
  simp [armResumeRule, tested, frozen]

theorem isArmFresh_of_mode_zero {f : Frame} (isArm : f.kind = 0x0F#8) (mode : f.payload = [0#8]) :
    isArmFresh f = true := by
  simp [isArmFresh, kindIs, kindOnly, isArm, mode]

end Sys2Proof.Machine

namespace Sys2Proof

open Machine

/-- Settles O50: after each of the four occasions run control is its reset values, or its own restart, which keeps the
rupture settings; at ARM RESUME with the tick at its maximum the entry to FREEZING then sets run state and reason. -/
theorem runControlSetBack : Obligations.RunControlSetBack := by
  intro s
  refine ⟨fun baud => ?_, fun f rest set takes setBack => ⟨fun isReset empty => ?_,
    fun free noCheck isArm fresh => ?_, fun frozen noCheck isArm resumed => ?_⟩⟩
  · have ended : exec (.fullResetEnd baud) s.fullReset = .next (s.fullReset.fullResetEnd baud) := rfl
    refine ⟨s.fullReset, s.fullReset.fullResetEnd baud, rfl, ended, ?_⟩
    rw [State.fullResetEnd_ctl]
    exact ⟨rfl, rfl, rfl, rfl, rfl, fun c => Vector.getElem_replicate c.isLt, rfl, rfl⟩
  · have row : exec .resetRun s = live (State.handle (kindIs 0x03#8) resetRunRule) s := rfl
    refine ⟨(s.withReady rest).resetRun, takes.answers row (beq_iff_eq.mpr isReset) ?_, ?_⟩
    · rw [empty, resetRunRule, noPayload_nil]
    · rw [State.resetRun_ctl, State.withReady_ctl, setBack, RunCtl.restart]
  · have row : exec .arm s = live (State.handle isArmFresh armRule) s := rfl
    refine ⟨(s.withReady rest).armFresh, takes.answers row (isArmFresh_of_mode_zero isArm fresh) ?_, ?_⟩
    · rw [fresh]
      exact armRule_fresh (State.armTest_of_configurable free noCheck)
    · rw [State.armFresh_ctl, State.withReady_ctl, setBack, RunCtl.restart]
  · have row : exec .armResume s = live (State.handle (kindOnly 0x0F#8 1#8) armResumeRule) s := rfl
    have ofRow : kindOnly 0x0F#8 1#8 f = true := by simp [kindOnly, isArm, resumed]
    have tested : (s.withReady rest).armTest = none := State.armTest_of_configurable (.inr frozen) noCheck
    refine ⟨(s.withReady rest).armResume, takes.answers row ofRow (armResumeRule_of_frozen tested frozen _), ?_⟩
    have limit : Config.tickMax = 281474976710655 := by decide
    rw [State.armResume_ctl, State.withReady_ctl, State.withReady_tick, limit, setBack, setBack, RunCtl.restart,
      RunCtl.restart]

end Sys2Proof
end

section
/-! PROOFS. IDENTIFY and the line rate it gives (09, R166, R176): no command but a full reset and its end changes the
rate. The receiver, the take of a frame and the tick change other fields of the link; every other operation leaves the
link as it is. -/

namespace Sys2Proof.Machine

/-! ### The answer of IDENTIFY (R176, 11.4) -/

theorem identifyRule_nil (s : State) : identifyRule [] s =
    (s, .done, [0x4E#8, 0x16#8, 1#8, 16#8, 3#8, 0xFC#8, s.link.rate.zeroExtend 8]) := by
  have rate : be 1 s.link.rate.toNat = [s.link.rate.zeroExtend 8] :=
    congrArg (fun b : Byte => [b]) (BitVec.ofNat_toNat 8 s.link.rate)
  rw [identifyRule, noPayload_nil, rate]
  rfl

theorem identifyRule_of_ne_nil {payload : List Byte} (given : payload ≠ []) (s : State) :
    identifyRule payload s = refuse s .format := noPayload_of_ne_nil _ given s

/-! ### The receiver keeps the line rate (R169 to R172) -/

@[simp] theorem Link.bump_rate (l : Link) (e : RxError) : (l.bump e).rate = l.rate := by cases e <;> rfl

@[simp] theorem Link.goTo_rate (l : Link) (rx : RxState) : (l.goTo rx).rate = l.rate := rfl

@[simp] theorem Link.tick_rate (l : Link) : l.tick.rate = l.rate := by
  unfold Link.tick
  split <;> rfl

@[simp] theorem State.linkError_rate (s : State) (e : RxError) : (s.linkError e).link.rate = s.link.rate :=
  Link.bump_rate s.link e

@[simp] theorem State.enterBreak_rate (s : State) : s.enterBreak.link.rate = s.link.rate := Link.bump_rate s.link .brk

@[simp] theorem State.frameByte_rate (s : State) (got : List Byte) : (s.frameByte got).link.rate = s.link.rate := by
  unfold State.frameByte
  (repeat' split) <;> simp

@[simp] theorem State.rxByte_rate (s : State) (b : Byte) : (s.rxByte b).link.rate = s.link.rate := by
  unfold State.rxByte
  (repeat' split) <;> simp

@[simp] theorem State.truncated_rate (s : State) : s.truncated.link.rate = s.link.rate := by
  unfold State.truncated
  (repeat' split) <;> simp

theorem State.frameReceived_rate (bytes : List Byte) (s : State) :
    (s.frameReceived bytes).link.rate = s.link.rate :=
  (foldl_keeps (·.link.rate) State.rxByte State.rxByte_rate bytes s.truncated).trans s.truncated_rate

theorem State.framingError_rate (s : State) : s.framingError.link.rate = s.link.rate := by
  unfold State.framingError
  split <;> simp

theorem State.lineBreak_rate (s : State) : s.lineBreak.link.rate = s.link.rate := by
  unfold State.lineBreak
  split <;> simp

theorem State.lineBreakEnd_rate (s : State) : s.lineBreakEnd.link.rate = s.link.rate := by
  unfold State.lineBreakEnd
  split <;> rfl

/-! ### The steps of a channel leave the link alone (02) -/

@[simp] theorem State.noiseBlockEnd_link (c : Chan) (s : State) : (s.noiseBlockEnd c).link = s.link := by
  unfold State.noiseBlockEnd
  split <;> rfl

@[simp] theorem State.settlingComplete_link (c : Chan) (s : State) : (s.settlingComplete c).link = s.link := by
  unfold State.settlingComplete
  split <;> rfl

@[simp] theorem State.peakFixed_link (c : Chan) (s : State) : (s.peakFixed c).link = s.link := by
  unfold State.peakFixed
  split <;> rfl

@[simp] theorem State.endHit_link (c : Chan) (h : Hit) (d : Nat) (long : Bool) (s : State) :
    (State.endHit c h d long s).link = s.link := by
  unfold State.endHit
  dsimp only
  split <;> simp

@[simp] theorem State.hitEnd_link (c : Chan) (s : State) : (s.hitEnd c).link = s.link := by
  unfold State.hitEnd
  (repeat' split) <;> simp

@[simp] theorem State.forcedEnd_link (c : Chan) (s : State) : (s.forcedEnd c).link = s.link := by
  unfold State.forcedEnd
  (repeat' split) <;> simp

@[simp] theorem State.lockoutEnd_link (c : Chan) (s : State) : (s.lockoutEnd c).link = s.link := by
  unfold State.lockoutEnd
  (repeat' split) <;> simp

@[simp] theorem State.loseLane_link (c : Chan) (s : State) : (s.loseLane c).link = s.link := by
  unfold State.loseLane
  dsimp only
  split <;> simp

@[simp] theorem State.laneLost_link (c : Chan) (s : State) : (s.laneLost c).link = s.link := by
  unfold State.laneLost
  (repeat' split) <;> simp

@[simp] theorem State.laneRecovered_link (c : Chan) (s : State) : (s.laneRecovered c).link = s.link := by
  unfold State.laneRecovered
  dsimp only
  (repeat' split) <;> simp

@[simp] theorem State.catchUp_link (c : Chan) (s : State) : (s.catchUp c).link = s.link := by simp [State.catchUp]

@[simp] theorem State.openHit_link (c : Chan) (mag : Nat) (clip : Bool) (s : State) :
    (State.openHit c mag clip s).link = s.link := by
  unfold State.openHit
  dsimp only
  split <;> simp

@[simp] theorem State.sampleHit_link (c : Chan) (h : Hit) (mag : Nat) (count clip : Bool) (s : State) :
    (State.sampleHit c h mag count clip s).link = s.link := by
  unfold State.sampleHit
  dsimp only
  split <;> simp

@[simp] theorem State.sampleTesting_link (c : Chan) (mag : Nat) (count : Bool) (s : State) :
    (State.sampleTesting c mag count s).link = s.link := by
  unfold State.sampleTesting
  (repeat' split) <;> rfl

@[simp] theorem State.afterHitSample_link (c : Chan) (before : RunState) (s : State) :
    (State.afterHitSample c before s).link = s.link := by
  unfold State.afterHitSample
  split <;> simp

theorem State.laneSample_link (c : Chan) (sample : Sample) (s : State) : (s.laneSample c sample).link = s.link := by
  unfold State.laneSample State.takeSample
  dsimp only
  (repeat' split) <;> simp

theorem State.missingFrame_link (c : Chan) (s : State) : (s.missingFrame c).link = s.link := by
  unfold State.missingFrame State.takeMissing
  dsimp only
  (repeat' split) <;> simp

@[simp] theorem State.closeSample_link (s : State) : s.closeSample.link = s.link := by
  rw [State.closeSample, State.takeOffers_link, foldl_keeps (·.link) _ fun u c => State.catchUp_link c u,
    State.lastCuts_link]
  rfl

/-! ### The steps of the associator and the locator leave the link alone (04, 05, 06) -/

@[simp] theorem State.close_link (s : State) (o : OpenEvent) : (s.close o).link = s.link := by
  unfold State.close State.closeEvent State.routeEvent
  dsimp only
  (repeat' split) <;> rfl

@[simp] theorem State.decideClosed_link (s : State) (r : HitRec) : (s.decideClosed r).link = s.link := by
  unfold State.decideClosed
  (repeat' split) <;> rfl

@[simp] theorem State.decideOpen_link (s : State) (r : HitRec) : (s.decideOpen r).link = s.link := by
  unfold State.decideOpen
  (repeat' split) <;> rfl

theorem State.handOver_link (s : State) : s.handOver.link = s.link := by
  unfold State.handOver State.decideEntry
  (repeat' split) <;> simp

theorem State.closeByHorizon_link (s : State) : s.closeByHorizon.link = s.link := by
  unfold State.closeByHorizon
  (repeat' split) <;> simp

theorem State.locationStart_link (s : State) : s.locationStart.link = s.link := by
  unfold State.locationStart
  split <;> rfl

@[simp] theorem State.accumulate_link (s : State) (nc nr : Nat) (e : EventRec) (p : LocPart) :
    (s.accumulate nc nr e p).link = s.link := by
  unfold State.accumulate
  dsimp only
  split <;> rfl

theorem State.locationEnd_link (s : State) : s.locationEnd.link = s.link := by
  unfold State.locationEnd
  dsimp only
  (repeat' split) <;> simp

/-! ### The steps of the check unit leave the link alone (07) -/

theorem State.gatheringComplete_link (s : State) : s.gatheringComplete.link = s.link := by
  unfold State.gatheringComplete
  (repeat' split) <;> rfl

theorem State.pulse_link (s : State) : s.pulse.link = s.link := by
  unfold State.pulse
  (repeat' split) <;> rfl

theorem State.listeningWindowEnd_link (s : State) : s.listeningWindowEnd.link = s.link := by
  unfold State.listeningWindowEnd
  (repeat' split) <;> rfl

@[simp] theorem State.patternOutcome_link (s : State) (c : Chan) : (s.patternOutcome c).link = s.link := by
  unfold State.patternOutcome
  (repeat' split) <;> rfl

@[simp] theorem State.feedPattern_link (s : State) : s.feedPattern.link = s.link := by
  unfold State.feedPattern
  (repeat' split) <;> rfl

@[simp] theorem State.decidePatterns_link (s : State) : s.decidePatterns.link = s.link :=
  foldl_keeps (·.link) State.patternOutcome State.patternOutcome_link _ _

theorem State.changeVerdict_link (s0 : State) (ck : Check) (s : State) (c : Chan) :
    (State.changeVerdict s0 ck s c).link = s.link := by
  unfold State.changeVerdict
  split <;> rfl

@[simp] theorem State.keepResult_link (s0 : State) (ck : Check) (s : State) :
    (State.keepResult s0 ck s).link = s.link := by
  unfold State.keepResult
  split
  · rfl
  · exact foldl_keeps (·.link) (State.changeVerdict s0 ck) (State.changeVerdict_link s0 ck) _ _

theorem State.checkComplete_link (s : State) : s.checkComplete.link = s.link := by
  unfold State.checkComplete
  (repeat' split) <;> simp

@[simp] theorem State.beginCheck_link (s : State) (ck : Check) (policy : Policy) :
    (s.beginCheck ck policy).link = s.link := by
  unfold State.beginCheck
  dsimp only
  split <;> rfl

/-! ### The steps of the pressure monitor, the report unit, run control and the timebase (01, 08, 10) -/

theorem State.pressurePeriod_link (s : State) : s.pressurePeriod.link = s.link := by
  unfold State.pressurePeriod
  split <;> rfl

@[simp] theorem State.takeFlag_link (s : State) (code : Code) : (s.takeFlag code).link = s.link := by
  obtain ⟨r, e⟩ := s.takeFlag_eq code
  rw [e]

@[simp] theorem State.tellPhase_link (s : State) (old : Phase) : (s.tellPhase old).link = s.link := by
  obtain ⟨k, ch, d, r, e, -⟩ := s.tellPhase_eq old
  rw [e]

@[simp] theorem State.useP_link (s : State) (history : List Nat) (P : Nat) : (s.useP history P).link = s.link := by
  unfold State.useP
  dsimp only
  split <;> simp

theorem State.conversionComplete_link (code : Code) (s : State) : (s.conversionComplete code).link = s.link := by
  unfold State.conversionComplete State.takeCode
  dsimp only
  (repeat' split) <;> simp

theorem State.frameSent_link (s : State) : s.frameSent.link = s.link := by
  unfold State.frameSent
  split <;> rfl

theorem State.hrdyChange_link (level : Bool) (s : State) : (s.hrdyChange level).link = s.link := by
  unfold State.hrdyChange
  split <;> rfl

theorem State.ageLimit_link (s : State) : s.ageLimit.link = s.link := by
  unfold State.ageLimit
  split <;> rfl

theorem State.summaryTimer_link (s : State) : s.summaryTimer.link = s.link := by
  unfold State.summaryTimer
  split <;> rfl

theorem State.drainComplete_link (s : State) : s.drainComplete.link = s.link := by
  unfold State.drainComplete
  split <;> rfl

theorem State.armResume_link (s : State) : s.armResume.link = s.link := by
  unfold State.armResume
  dsimp only
  split
  · exact State.enterFreezing_link _ _ _ _
  · rfl

theorem State.resetRun_link (s : State) : s.resetRun.link = s.link :=
  (State.takeOffers_link _).trans (State.lastCuts_link s)

theorem State.timeLimit_link (s : State) : s.timeLimit.link = s.link := by
  unfold State.timeLimit
  split <;> simp

@[simp] theorem State.advance_link (s : State) : s.advance.link = s.link.tick := rfl

/-- The tick runs the receiver's byte timer alone (R169). -/
theorem State.tickStep_rate (s : State) : s.tickStep.link.rate = s.link.rate := by
  unfold State.tickStep
  split <;> simp

/-! ### The rules of the requests leave the link alone (R175) -/

/-- A request's rule gives the link back as it is given it: the slot is freed before the rule is asked (R173). -/
def LeavesLink (rule : List Byte → State → Answer) : Prop := ∀ payload s, (rule payload s).1.link = s.link

@[simp] theorem refuse_link (s : State) (r : Result) : (refuse s r).1.link = s.link := rfl

/-- A rule without a payload leaves the link alone if it does so where it is asked. -/
theorem leavesLink_of_noPayload {rule : List Byte → State → Answer} {act : State → Answer} (is : rule = noPayload act)
    (asked : ∀ s, (act s).1.link = s.link) : LeavesLink rule := by
  intro payload s
  rw [is]
  match payload with
  | [] => exact asked s
  | _ :: _ => rfl

theorem identifyRule_link : LeavesLink identifyRule := leavesLink_of_noPayload rfl fun _ => rfl

theorem statusRule_link : LeavesLink statusRule := leavesLink_of_noPayload rfl fun _ => rfl

theorem resetRunRule_link : LeavesLink resetRunRule := leavesLink_of_noPayload rfl State.resetRun_link

theorem alarmClearRule_link : LeavesLink alarmClearRule := leavesLink_of_noPayload rfl fun _ => rfl

theorem zoneReadRule_link : LeavesLink zoneReadRule := leavesLink_of_noPayload rfl fun _ => rfl

theorem mapClearRule_link : LeavesLink mapClearRule :=
  leavesLink_of_noPayload rfl fun _ => by split <;> rfl

theorem stopRule_link : LeavesLink stopRule :=
  leavesLink_of_noPayload rfl fun _ => by split <;> simp

theorem checkAbortRule_link : LeavesLink checkAbortRule :=
  leavesLink_of_noPayload rfl fun _ => by split <;> rfl

@[simp] theorem State.takeEnable_link (c : Chan) (carried : Option Nat) (s : State) :
    (State.takeEnable c carried s).link = s.link := by
  unfold State.takeEnable
  dsimp only
  (repeat' split) <;> rfl

theorem State.setChannel_link (i : ChanItems) (s : State) (c : Chan) : (s.setChannel i c).link = s.link := by
  simp [State.setChannel]

theorem channelSetItems_link (mask : Vector Bool 16) (i : ChanItems) (s : State) :
    (channelSetItems mask i s).1.link = s.link := by
  have kept (cs : List Chan) : (cs.foldl (State.setChannel i) s).link = s.link :=
    foldl_keeps (·.link) (State.setChannel i) (State.setChannel_link i) cs s
  unfold channelSetItems
  (repeat' split) <;> simp only [refuse_link, kept]

theorem channelSetRule_link : LeavesLink channelSetRule := by
  intro payload s
  unfold channelSetRule
  (repeat' split) <;> simp only [refuse_link, channelSetItems_link]

theorem channelGetRule_link : LeavesLink channelGetRule := by
  intro payload s
  unfold channelGetRule
  (repeat' split) <;> rfl

theorem pressureSetRule_link : LeavesLink pressureSetRule := by
  intro payload s
  unfold pressureSetRule pressureStore
  (repeat' split) <;> rfl

theorem geometrySetRule_link : LeavesLink geometrySetRule := by
  intro payload s
  unfold geometrySetRule geometryStore
  (repeat' split) <;> rfl

theorem sensorPlaceRule_link : LeavesLink sensorPlaceRule := by
  intro payload s
  unfold sensorPlaceRule sensorPlaceStore
  (repeat' split) <;> rfl

theorem sensorUnplaceRule_link : LeavesLink sensorUnplaceRule := by
  intro payload s
  unfold sensorUnplaceRule sensorUnplaceStore
  (repeat' split) <;> rfl

theorem windowSetRule_link : LeavesLink windowSetRule := by
  intro payload s
  unfold windowSetRule windowStore
  (repeat' split) <;> rfl

theorem zoneSetRule_link : LeavesLink zoneSetRule := by
  intro payload s
  unfold zoneSetRule zoneStore
  (repeat' split) <;> rfl

theorem associationSetRule_link : LeavesLink associationSetRule := by
  intro payload s
  unfold associationSetRule associationStore
  (repeat' split) <;> rfl

theorem clusterSetRule_link : LeavesLink clusterSetRule := by
  intro payload s
  unfold clusterSetRule clusterStore
  (repeat' split) <;> rfl

theorem ruptureSetRule_link : LeavesLink ruptureSetRule := by
  intro payload s
  unfold ruptureSetRule ruptureStore
  (repeat' split) <;> rfl

theorem reportSetRule_link : LeavesLink reportSetRule := by
  intro payload s
  unfold reportSetRule reportStore
  (repeat' split) <;> rfl

theorem armRule_link : LeavesLink armRule := by
  intro payload s
  unfold armRule
  (repeat' split) <;> rfl

theorem armResumeRule_link : LeavesLink armResumeRule := by
  intro payload s
  unfold armResumeRule
  (repeat' split) <;> simp [State.armResume_link]

theorem mapReadRule_link : LeavesLink mapReadRule := by
  intro payload s
  unfold mapReadRule
  (repeat' split) <;> rfl

theorem checkStartShortRule_link : LeavesLink checkStartShortRule := by
  intro payload s
  unfold checkStartShortRule checkShort
  (repeat' split) <;> simp

theorem checkStartLongRule_link : LeavesLink checkStartLongRule := by
  intro payload s
  unfold checkStartLongRule checkLong
  (repeat' split) <;> simp

theorem checkStartPatternRule_link : LeavesLink checkStartPatternRule := by
  intro payload s
  unfold checkStartPatternRule checkPattern
  (repeat' split) <;> simp

theorem patternLoadRule_link : LeavesLink patternLoadRule := by
  intro payload s
  unfold patternLoadRule patternStore
  (repeat' split) <;> rfl

theorem baselineReadRule_link : LeavesLink baselineReadRule := by
  intro payload s
  unfold baselineReadRule
  (repeat' split) <;> rfl

theorem baselineLatestRule_link : LeavesLink baselineLatestRule := fun _ _ => rfl

theorem unknownKindRule_link : LeavesLink unknownKindRule := fun _ _ => rfl

/-! ### The line rate after a command (R166) -/

/-- The take of a frame by a rule that leaves the link alone frees the slot and keeps the line rate (R170, R173). -/
theorem State.handle_rate {rule : List Byte → State → Answer} (leaves : LeavesLink rule) (isRow : Frame → Bool)
    (s : State) : (State.handle isRow rule s).link.rate = s.link.rate := by
  rcases State.handle_cases isRow rule s with ⟨-, e⟩ | ⟨f, -, e⟩
  · rw [e]
  · rw [e, State.answer_link, leaves, State.freeSlot_link]

theorem State.checkAbort_rate (s : State) : s.checkAbort.link.rate = s.link.rate := by
  unfold State.checkAbort
  (repeat' split) <;> simp [State.handle_rate checkAbortRule_link]

/-- Command i keeps the line rate. -/
def KeepsRate (i : Instr) : Prop := ∀ s t, exec i s = .next t → t.link.rate = s.link.rate

/-- A command keeps the line rate if its step does: a held full reset takes no step (R163). -/
theorem keepsRate_of_step {i : Instr} {f : State → State} (row : ∀ s, exec i s = live f s)
    (step : ∀ s, (f s).link.rate = s.link.rate) : KeepsRate i := by
  intro s t taken
  rw [row] at taken
  cases held : s.inReset with
  | true =>
    rw [live_of_reset f held] at taken
    cases taken
    rfl
  | false =>
    rw [live_of_running f held] at taken
    cases taken
    exact step s

theorem keepsRate_of_link {i : Instr} {f : State → State} (row : ∀ s, exec i s = live f s)
    (step : ∀ s, (f s).link = s.link) : KeepsRate i := keepsRate_of_step row fun s => congrArg Link.rate (step s)

theorem keepsRate_of_request {i : Instr} {isRow : Frame → Bool} {rule : List Byte → State → Answer}
    (row : ∀ s, exec i s = live (State.handle isRow rule) s) (leaves : LeavesLink rule) : KeepsRate i :=
  keepsRate_of_step row (State.handle_rate leaves isRow)

/-- HRDY is a pin of the host: its level is taken in a held full reset too (R163, log 6). -/
theorem keepsRate_hrdyAsserted (level : Bool) : KeepsRate (.hrdyAsserted level) := by
  intro s t taken
  cases taken
  exact congrArg Link.rate (s.hrdyChange_link level)

/-- No command but a full reset and its end changes the line rate (R166, R176). -/
theorem keepsRate_of_no_fullReset (i : Instr) (noReset : i ≠ .fullReset) (noEnd : ∀ baud, i ≠ .fullResetEnd baud) :
    KeepsRate i := by
  cases i with
  | fullReset => exact absurd rfl noReset
  | fullResetEnd baud => exact absurd rfl (noEnd baud)
  | hrdyAsserted level => exact keepsRate_hrdyAsserted level
  | tick => exact keepsRate_of_step (fun _ => rfl) State.tickStep_rate
  | frameReceived bytes => exact keepsRate_of_step (fun _ => rfl) (State.frameReceived_rate bytes)
  | framingError => exact keepsRate_of_step (fun _ => rfl) State.framingError_rate
  | truncated => exact keepsRate_of_step (fun _ => rfl) State.truncated_rate
  | lineBreak => exact keepsRate_of_step (fun _ => rfl) State.lineBreak_rate
  | lineBreakEnd => exact keepsRate_of_step (fun _ => rfl) State.lineBreakEnd_rate
  | checkAbort => exact keepsRate_of_step (fun _ => rfl) State.checkAbort_rate
  | timeLimit => exact keepsRate_of_link (fun _ => rfl) State.timeLimit_link
  | pressurePeriod => exact keepsRate_of_link (fun _ => rfl) State.pressurePeriod_link
  | conversionComplete code => exact keepsRate_of_link (fun _ => rfl) (State.conversionComplete_link code)
  | laneSample c sample => exact keepsRate_of_link (fun _ => rfl) (State.laneSample_link c sample)
  | missingFrame c => exact keepsRate_of_link (fun _ => rfl) (State.missingFrame_link c)
  | peakFixed c => exact keepsRate_of_link (fun _ => rfl) (State.peakFixed_link c)
  | hitEnd c => exact keepsRate_of_link (fun _ => rfl) (State.hitEnd_link c)
  | forcedEnd c => exact keepsRate_of_link (fun _ => rfl) (State.forcedEnd_link c)
  | lockoutEnd c => exact keepsRate_of_link (fun _ => rfl) (State.lockoutEnd_link c)
  | laneLost c => exact keepsRate_of_link (fun _ => rfl) (State.laneLost_link c)
  | laneRecovered c => exact keepsRate_of_link (fun _ => rfl) (State.laneRecovered_link c)
  | settlingComplete c => exact keepsRate_of_link (fun _ => rfl) (State.settlingComplete_link c)
  | noiseBlockEnd c => exact keepsRate_of_link (fun _ => rfl) (State.noiseBlockEnd_link c)
  | handOver => exact keepsRate_of_link (fun _ => rfl) State.handOver_link
  | closeByHorizon => exact keepsRate_of_link (fun _ => rfl) State.closeByHorizon_link
  | locationStart => exact keepsRate_of_link (fun _ => rfl) State.locationStart_link
  | locationEnd => exact keepsRate_of_link (fun _ => rfl) State.locationEnd_link
  | drainComplete => exact keepsRate_of_link (fun _ => rfl) State.drainComplete_link
  | gatheringComplete => exact keepsRate_of_link (fun _ => rfl) State.gatheringComplete_link
  | pulse => exact keepsRate_of_link (fun _ => rfl) State.pulse_link
  | listeningWindowEnd => exact keepsRate_of_link (fun _ => rfl) State.listeningWindowEnd_link
  | checkComplete => exact keepsRate_of_link (fun _ => rfl) State.checkComplete_link
  | patternOutcome c => exact keepsRate_of_link (fun _ => rfl) fun s => s.patternOutcome_link c
  | frameSent => exact keepsRate_of_link (fun _ => rfl) State.frameSent_link
  | ageLimit => exact keepsRate_of_link (fun _ => rfl) State.ageLimit_link
  | summaryTimer => exact keepsRate_of_link (fun _ => rfl) State.summaryTimer_link
  | identify => exact keepsRate_of_request (fun _ => rfl) identifyRule_link
  | status => exact keepsRate_of_request (fun _ => rfl) statusRule_link
  | resetRun => exact keepsRate_of_request (fun _ => rfl) resetRunRule_link
  | channelSet => exact keepsRate_of_request (fun _ => rfl) channelSetRule_link
  | channelGet => exact keepsRate_of_request (fun _ => rfl) channelGetRule_link
  | pressureSet => exact keepsRate_of_request (fun _ => rfl) pressureSetRule_link
  | geometrySet => exact keepsRate_of_request (fun _ => rfl) geometrySetRule_link
  | sensorPlace => exact keepsRate_of_request (fun _ => rfl) sensorPlaceRule_link
  | sensorUnplace => exact keepsRate_of_request (fun _ => rfl) sensorUnplaceRule_link
  | windowSet => exact keepsRate_of_request (fun _ => rfl) windowSetRule_link
  | zoneSet => exact keepsRate_of_request (fun _ => rfl) zoneSetRule_link
  | associationSet => exact keepsRate_of_request (fun _ => rfl) associationSetRule_link
  | clusterSet => exact keepsRate_of_request (fun _ => rfl) clusterSetRule_link
  | ruptureSet => exact keepsRate_of_request (fun _ => rfl) ruptureSetRule_link
  | reportSet => exact keepsRate_of_request (fun _ => rfl) reportSetRule_link
  | arm => exact keepsRate_of_request (fun _ => rfl) armRule_link
  | armResume => exact keepsRate_of_request (fun _ => rfl) armResumeRule_link
  | stop => exact keepsRate_of_request (fun _ => rfl) stopRule_link
  | alarmClear => exact keepsRate_of_request (fun _ => rfl) alarmClearRule_link
  | mapClear => exact keepsRate_of_request (fun _ => rfl) mapClearRule_link
  | mapRead => exact keepsRate_of_request (fun _ => rfl) mapReadRule_link
  | zoneRead => exact keepsRate_of_request (fun _ => rfl) zoneReadRule_link
  | checkStartShort => exact keepsRate_of_request (fun _ => rfl) checkStartShortRule_link
  | checkStartLong => exact keepsRate_of_request (fun _ => rfl) checkStartLongRule_link
  | checkStartPattern => exact keepsRate_of_request (fun _ => rfl) checkStartPatternRule_link
  | patternLoad => exact keepsRate_of_request (fun _ => rfl) patternLoadRule_link
  | baselineRead => exact keepsRate_of_request (fun _ => rfl) baselineReadRule_link
  | baselineReadLatest => exact keepsRate_of_request (fun _ => rfl) baselineLatestRule_link
  | unknownKind => exact keepsRate_of_request (fun _ => rfl) unknownKindRule_link

end Sys2Proof.Machine

namespace Sys2Proof

open Machine

/-- Settles O52: the rule's two cases, neither of which asks the run state, and the line rate it gives, which every
command but a full reset and its end keeps. -/
theorem identifyServed : Obligations.IdentifyServed := by
  refine ⟨fun s f rest takes isIdentify => ?_, fun c s t noReset noEnd => keepsRate_of_no_fullReset c noReset noEnd s t⟩
  have row : exec .identify s = live (State.handle (kindIs 0x01#8) identifyRule) s := rfl
  have ofRow : kindIs 0x01#8 f = true := beq_iff_eq.mpr isIdentify
  refine ⟨fun given => takes.answers row ofRow (identifyRule_of_ne_nil given _), fun empty => ?_⟩
  refine takes.answers row ofRow ?_
  rw [empty, identifyRule_nil]
  rfl

end Sys2Proof
end

section
/-! PROOFS. What every command keeps within bounds (R2, R42, R44, R86, R104, R170, R181, R182, R184): one relation
between the state before and after, which every operation of the model stands in. -/

namespace Sys2Proof.Machine

/-! ### The relation -/

/-- The report unit's queues and its detail level are within their bounds (R181, R182, R184). -/
structure Report.QueuesFit (r : Report) : Prop where
  notices : r.notices.length ≤ 16
  data : r.data.length ≤ 256
  level : r.ceiling.code ≤ r.level.code

/-- The lost counters are within their fields (R181, R182). -/
def Report.LostFit (r : Report) : Prop :=
  r.noticesLost ≤ 4294967295 ∧ r.eventsLost ≤ 4294967295 ∧ r.hitsLost ≤ 4294967295

/-- The two slots hold the READY frames and the one in assembly (R170). -/
def Link.SlotsFit (l : Link) : Prop := l.ready.length + l.assembling.toNat ≤ 2

/-- The receive errors are within their fields (R171, R172). -/
def Link.ErrorsFit (l : Link) : Prop :=
  l.framing ≤ 65535 ∧ l.overrun ≤ 65535 ∧ l.crc ≤ 65535 ∧ l.length ≤ 65535 ∧ l.truncated ≤ 65535 ∧ l.brk ≤ 65535

/-- The counters of a cell are within their fields (R113). -/
def Cell.Fits (x : Cell) : Prop :=
  x.events ≤ 65535 ∧ x.hold ≤ 65535 ∧ x.reload ≤ 65535 ∧ x.energy ≤ 4294967295

/-- The counters of a zone table entry are within their fields (R119). -/
def ZoneCount.Fits (z : ZoneCount) : Prop := z.events ≤ 65535 ∧ z.hold ≤ 65535 ∧ z.reload ≤ 65535

/-- A map of n cells, a geometry and a velocity fit together (R86, R89, R112). -/
structure GridFits (n : Nat) (geom : Option Geometry) (v : Nat) : Prop where
  cells : n = match geom with
    | none => 0
    | some g => g.nc * g.nr
  geom : ∀ g, geom = some g → g.Legal
  v : 500 ≤ v ∧ v ≤ 9999

/-- From s to t the queue of commands is untouched, and every bound that holds at s holds at t. -/
structure State.KeepsBounds (s t : State) : Prop where
  pending : t.pending = s.pending
  tick : s.tick ≤ 281474976710655 → t.tick ≤ 281474976710655
  hitList : s.hitList.length ≤ 512 → t.hitList.length ≤ 512
  locQueue : s.loc.queue.length ≤ 16 → t.loc.queue.length ≤ 16
  slots : s.link.SlotsFit → t.link.SlotsFit
  queues : s.rep.QueuesFit → t.rep.QueuesFit
  channels : ∀ c, (s.ch c).CountersBounded → (t.ch c).CountersBounded
  pressure : s.press.stable ≤ 65535 ∧ s.press.holdIndex ≤ 255 → t.press.stable ≤ 65535 ∧ t.press.holdIndex ≤ 255
  cells : (∀ x ∈ s.map.cells, x.Fits) → ∀ x ∈ t.map.cells, x.Fits
  zones : (∀ c : Chan, (s.map.zones[c]).Fits) → ∀ c : Chan, (t.map.zones[c]).Fits
  arming : s.ctl.numbered ≤ 4294967295 ∧ s.ctl.located ≤ 4294967295 →
    t.ctl.numbered ≤ 4294967295 ∧ t.ctl.located ≤ 4294967295
  errors : s.link.ErrorsFit → t.link.ErrorsFit
  lost : s.rep.LostFit → t.rep.LostFit
  grid : GridFits s.map.cells.length s.loc.geom s.loc.v → GridFits t.map.cells.length t.loc.geom t.loc.v

theorem State.KeepsBounds.refl (s : State) : s.KeepsBounds s where
  pending := rfl
  tick h := h
  hitList h := h
  locQueue h := h
  slots h := h
  queues h := h
  channels _ h := h
  pressure h := h
  cells h := h
  zones h := h
  arming h := h
  errors h := h
  lost h := h
  grid h := h

theorem State.KeepsBounds.trans {s t u : State} (h : s.KeepsBounds t) (k : t.KeepsBounds u) : s.KeepsBounds u where
  pending := k.pending.trans h.pending
  tick := k.tick ∘ h.tick
  hitList := k.hitList ∘ h.hitList
  locQueue := k.locQueue ∘ h.locQueue
  slots := k.slots ∘ h.slots
  queues := k.queues ∘ h.queues
  channels c := k.channels c ∘ h.channels c
  pressure := k.pressure ∘ h.pressure
  cells := k.cells ∘ h.cells
  zones := k.zones ∘ h.zones
  arming := k.arming ∘ h.arming
  errors := k.errors ∘ h.errors
  lost := k.lost ∘ h.lost
  grid := k.grid ∘ h.grid

/-- A fold whose every step keeps the bounds keeps them. -/
theorem State.KeepsBounds.foldl {β : Type} {f : State → β → State}
    (h : ∀ (s : State) b, s.KeepsBounds (f s b)) (l : List β) (s : State) :
    s.KeepsBounds (l.foldl f s) :=
  foldl_holds (State.KeepsBounds s) f (fun t b k => k.trans (h t b)) l s (.refl s)

theorem State.QueuesBounded.of_keeps {s t : State} (h : s.KeepsBounds t) (b : s.QueuesBounded) : t.QueuesBounded :=
  have q := h.queues ⟨b.notices, b.data, b.level⟩
  { tick := h.tick b.tick
    hitList := h.hitList b.hitList
    locQueue := h.locQueue b.locQueue
    slots := h.slots b.slots
    notices := q.notices
    data := q.data
    level := q.level }

theorem State.CountersBounded.of_keeps {s t : State} (h : s.KeepsBounds t) (b : s.CountersBounded) :
    t.CountersBounded where
  channels c := h.channels c (b.channels c)
  pressure := h.pressure b.pressure
  cells := h.cells b.cells
  zones := h.zones b.zones
  arming := h.arming b.arming
  errors := h.errors b.errors
  lost := h.lost b.lost

theorem State.GridLegal.of_keeps {s t : State} (h : s.KeepsBounds t) (b : s.GridLegal) : t.GridLegal :=
  have g := h.grid ⟨b.cells, b.geom, b.v⟩
  ⟨g.cells, g.geom, g.v⟩

/-! ### Channels -/

theorem Channel.applyPending_bounded {x : Channel} (h : x.CountersBounded) : x.applyPending.CountersBounded := by
  rw [Channel.applyPending_eq]
  exact ⟨h.hits, h.faults, h.runs⟩

theorem State.keepsBounds_of_chans {s : State} {v : Vector Channel 16}
    (h : ∀ c : Chan, (s.ch c).CountersBounded → (v[c]).CountersBounded) : s.KeepsBounds { s with chans := v } :=
  { State.KeepsBounds.refl s with channels := h }

theorem State.setCh_keepsBounds (s : State) (c : Chan) (x : Channel)
    (h : (s.ch c).CountersBounded → x.CountersBounded) : s.KeepsBounds (s.setCh c x) :=
  State.keepsBounds_of_chans fun d b => by
    change ((s.setCh c x).ch d).CountersBounded
    by_cases e : d = c
    · subst e; rw [State.setCh_ch_same]; exact h b
    · rw [State.setCh_ch_other _ _ e]; exact b

theorem State.modCh_keepsBounds (s : State) (c : Chan) (f : Channel → Channel)
    (h : ∀ x : Channel, x.CountersBounded → (f x).CountersBounded) : s.KeepsBounds (s.modCh c f) :=
  s.setCh_keepsBounds c _ (h _)

theorem State.mapCh_keepsBounds (s : State) (f : Chan → Channel → Channel)
    (h : ∀ c (x : Channel), x.CountersBounded → (f c x).CountersBounded) : s.KeepsBounds (s.mapCh f) :=
  State.keepsBounds_of_chans fun c b => by
    change ((s.mapCh f).ch c).CountersBounded
    rw [State.mapCh_ch]
    exact h c _ b

/-! ### The report unit -/

/-- From r to q the report unit stays within its bounds. -/
structure Report.KeepsBounds (r q : Report) : Prop where
  queues : r.QueuesFit → q.QueuesFit
  lost : r.LostFit → q.LostFit

theorem Report.KeepsBounds.refl (r : Report) : r.KeepsBounds r := ⟨id, id⟩

theorem Report.KeepsBounds.trans {r q p : Report} (h : r.KeepsBounds q) (k : q.KeepsBounds p) : r.KeepsBounds p :=
  ⟨k.queues ∘ h.queues, k.lost ∘ h.lost⟩

theorem State.keepsBounds_of_rep {s : State} {r : Report} (h : s.rep.KeepsBounds r) :
    s.KeepsBounds { s with rep := r } := { State.KeepsBounds.refl s with queues := h.queues, lost := h.lost }

theorem takeData_rest_length (n room : Nat) (qs : List Queued) : (takeData n room qs).2.length ≤ qs.length := by
  induction n generalizing room qs with
  | zero => exact Nat.le_refl _
  | succ n ih =>
    cases qs with
    | nil => exact Nat.le_refl _
    | cons q qs =>
      simp only [takeData]
      split
      · exact Nat.le_trans (ih _ _) (Nat.le_succ _)
      · exact Nat.le_refl _

/-- One level more detail is never past a ceiling that the level stood below (R184). -/
theorem Detail.le_up {ceiling level : Detail} (below : level.below ceiling = true) : ceiling.code ≤ level.up.code := by
  revert below; cases ceiling <;> cases level <;> decide

theorem Detail.le_down {ceiling level : Detail} (h : ceiling.code ≤ level.code) : ceiling.code ≤ level.down.code := by
  revert h; cases ceiling <;> cases level <;> decide

theorem Report.stepUp_keepsBounds (r : Report) : r.KeepsBounds r.stepUp := by
  unfold Report.stepUp
  split
  · next h => exact ⟨fun q => ⟨q.notices, q.data, Detail.le_up h.2⟩, id⟩
  · exact .refl r

theorem Report.stepDown_keepsBounds (r : Report) : r.KeepsBounds r.stepDown := by
  unfold Report.stepDown
  split
  · exact ⟨fun q => ⟨q.notices, q.data, Detail.le_down q.level⟩, id⟩
  · exact .refl r

theorem Report.sendData_keepsBounds (r : Report) : r.KeepsBounds r.sendData :=
  have sent : r.KeepsBounds
      { r with
        data := (takeData Config.dataPerFrame Config.payloadMax r.data).2
        tx := some (dataFrame (takeData Config.dataPerFrame Config.payloadMax r.data).1) } :=
    ⟨fun q => ⟨q.notices, (takeData_rest_length _ _ _).trans q.data, q.level⟩, id⟩
  sent.trans (Report.stepUp_keepsBounds _)

theorem Report.choose_keepsBounds (run : RunState) (tick : Nat) (r : Report) : r.KeepsBounds (r.choose run tick) := by
  unfold Report.choose
  split
  · exact .refl r
  · split
    · exact ⟨fun q => ⟨q.notices, q.data, q.level⟩, id⟩
    · split
      · next e => exact ⟨fun q => ⟨by have := q.notices; rw [e] at this; exact Nat.le_of_succ_le this, q.data, q.level⟩, id⟩
      · split
        · exact r.sendData_keepsBounds
        · exact .refl r

theorem Report.notify_keepsBounds (run : RunState) (tick : Nat) (n : Notice) (r : Report) :
    r.KeepsBounds (r.notify run tick n) := by
  unfold Report.notify
  split
  · next room =>
    refine .trans (q := { r with notices := r.notices ++ [n] }) ⟨fun q => ⟨?_, q.data, q.level⟩, id⟩
      (Report.choose_keepsBounds run tick _)
    rw [List.length_append]; exact room
  · exact ⟨fun q => ⟨q.notices, q.data, q.level⟩, fun l => ⟨Nat.min_le_left _ _, l.2⟩⟩

theorem Report.lose_keepsBounds (rec : DataRec) (r : Report) : r.KeepsBounds (r.lose rec) := by
  cases rec with
  | hit _ _ => exact ⟨fun q => ⟨q.notices, q.data, q.level⟩, fun l => ⟨l.1, l.2.1, Nat.min_le_left _ _⟩⟩
  | event _ => exact ⟨fun q => ⟨q.notices, q.data, q.level⟩, fun l => ⟨l.1, Nat.min_le_left _ _, l.2.2⟩⟩

theorem Report.handOver_keepsBounds (run : RunState) (tick : Nat) (rec : DataRec) (r : Report) :
    r.KeepsBounds (r.handOver run tick rec) := by
  unfold Report.handOver
  split
  · split
    · next room =>
      refine .trans (q := { r with data := r.data ++ [{ record := rec, joined := tick }] })
        ⟨fun q => ⟨q.notices, ?_, q.level⟩, id⟩
        ((Report.stepDown_keepsBounds _).trans (Report.choose_keepsBounds run tick _))
      rw [List.length_append]; exact room
    · exact (r.lose_keepsBounds rec).trans (Report.stepDown_keepsBounds _)
  · exact .refl r

theorem State.notify_keepsBounds (s : State) (n : Notice) : s.KeepsBounds (s.notify n) :=
  State.keepsBounds_of_rep (Report.notify_keepsBounds _ _ n s.rep)

theorem State.report_keepsBounds (s : State) (r : DataRec) : s.KeepsBounds (s.report r) :=
  State.keepsBounds_of_rep (Report.handOver_keepsBounds _ _ r s.rep)

theorem State.choose_keepsBounds (s : State) : s.KeepsBounds s.choose :=
  State.keepsBounds_of_rep (Report.choose_keepsBounds _ _ s.rep)

theorem State.answer_keepsBounds (s : State) (f : Frame) (r : Result) (data : List Byte) :
    s.KeepsBounds (s.answer f r data) :=
  .trans (t := { s with rep := { s.rep with reply := some ⟨f.tag, f.kind, r, data⟩ } })
    (State.keepsBounds_of_rep ⟨fun q => ⟨q.notices, q.data, q.level⟩, id⟩) (State.choose_keepsBounds _)

/-! ### The link -/

theorem State.freeSlot_keepsBounds (s : State) : s.KeepsBounds s.freeSlot :=
  { State.KeepsBounds.refl s with
    slots := fun h => by
      have : s.link.ready.tail.length ≤ s.link.ready.length := by simp
      exact Nat.le_trans (Nat.add_le_add_right this _) h }

theorem Link.bump_errorsFit {l : Link} (h : l.ErrorsFit) (e : RxError) : (l.bump e).ErrorsFit := by
  obtain ⟨h1, h2, h3, h4, h5, h6⟩ := h
  have sat (n : Nat) : satAdd Config.sat16 n 1 ≤ 65535 := Nat.min_le_left _ _
  cases e
  case framing => exact ⟨sat _, h2, h3, h4, h5, h6⟩
  case overrun => exact ⟨h1, sat _, h3, h4, h5, h6⟩
  case crc => exact ⟨h1, h2, sat _, h4, h5, h6⟩
  case length => exact ⟨h1, h2, h3, sat _, h5, h6⟩
  case truncated => exact ⟨h1, h2, h3, h4, sat _, h6⟩
  case brk => exact ⟨h1, h2, h3, h4, h5, sat _⟩

@[simp] theorem Link.bump_ready (l : Link) (e : RxError) : (l.bump e).ready = l.ready := by cases e <;> rfl

/-- A receive error leaves the READY frames and no frame in assembly (R171). -/
theorem State.linkError_keepsBounds (s : State) (e : RxError) : s.KeepsBounds (s.linkError e) :=
  .trans (t := { s with link := (s.link.bump e).goTo .hunt })
    { State.KeepsBounds.refl s with
      slots := fun h => by
        have kept : ((s.link.bump e).goTo .hunt).ready = s.link.ready := s.link.bump_ready e
        exact (congrArg List.length kept).trans_le ((Nat.le_add_right _ _).trans h)
      errors := fun h => Link.bump_errorsFit h e }
    (State.notify_keepsBounds _ _)

theorem State.enterBreak_keepsBounds (s : State) : s.KeepsBounds s.enterBreak :=
  .trans (t := { s with link := { (s.link.bump .brk).goTo .brk with ready := [] } })
    { State.KeepsBounds.refl s with
      slots := fun _ => Nat.zero_le _
      errors := fun h => Link.bump_errorsFit h .brk }
    (State.notify_keepsBounds _ _)

/-- A receiver that assembles no frame keeps the slots as they are (R170). -/
theorem State.goTo_keepsBounds (s : State) (rx : RxState) (h : s.link.SlotsFit → (s.link.goTo rx).SlotsFit) :
    s.KeepsBounds { s with link := s.link.goTo rx } := { State.KeepsBounds.refl s with slots := h }

theorem Link.slotsFit_of_room {l : Link} (h : l.ready.length < 2) : l.SlotsFit := by
  unfold Link.SlotsFit
  have := Bool.toNat_le l.assembling
  omega

/-- A byte that joins a frame with a slot for it (R169, R170). -/
theorem State.frameByte_keepsBounds {s : State} (room : s.link.SlotsFit → s.link.ready.length < 2) (got : List Byte) :
    s.KeepsBounds (s.frameByte got) := by
  have joins : s.KeepsBounds { s with link := s.link.goTo (.frame got) } :=
    s.goTo_keepsBounds _ fun h => Link.slotsFit_of_room (room h)
  unfold State.frameByte
  split
  · exact joins
  · split
    · exact s.linkError_keepsBounds _
    · split
      · exact joins
      · split
        · exact
            { State.KeepsBounds.refl s with
              slots := fun h => by
                have := room h
                simpa [Link.SlotsFit, Link.assembling, Link.goTo] using this }
        · exact s.linkError_keepsBounds _

theorem State.rxByte_keepsBounds (s : State) (b : Byte) : s.KeepsBounds (s.rxByte b) := by
  have idle (rx : RxState) (h : Link.assembling (s.link.goTo rx) = false) :
      s.KeepsBounds { s with link := s.link.goTo rx } :=
    s.goTo_keepsBounds rx fun fits => by
      unfold Link.SlotsFit at *
      rw [h]
      exact (Nat.le_add_right _ _).trans fits
  unfold State.rxByte
  split
  · split
    · exact idle _ rfl
    · exact .refl s
  · split
    · exact idle _ rfl
    · split
      · exact .refl s
      · exact idle _ rfl
  · next got rx =>
    split
    · refine .trans (t := { s with link := { s.link with rx := .frame [] } }) ?_ (State.linkError_keepsBounds _ _)
      exact { State.KeepsBounds.refl s with slots := fun h => (Nat.le_add_right _ _).trans h }
    · next claims =>
      refine State.frameByte_keepsBounds (fun fits => ?_) _
      unfold Link.SlotsFit Link.assembling at fits
      rw [rx] at fits
      cases got with
      | nil =>
        have : s.link.ready.length < Config.slotCap := by simpa using claims
        exact this
      | cons g gs => simpa using fits
  · exact .refl s
  · exact .refl s

theorem State.truncated_keepsBounds (s : State) : s.KeepsBounds s.truncated := by
  unfold State.truncated
  split
  · split
    · exact s.linkError_keepsBounds _
    · exact .refl s
  · exact .refl s

theorem State.frameReceived_keepsBounds (bytes : List Byte) (s : State) : s.KeepsBounds (s.frameReceived bytes) :=
  s.truncated_keepsBounds.trans (.foldl State.rxByte_keepsBounds _ _)

theorem State.framingError_keepsBounds (s : State) : s.KeepsBounds s.framingError := by
  unfold State.framingError
  split
  · exact s.truncated_keepsBounds.trans (State.linkError_keepsBounds _ _)
  · exact .refl s

theorem State.lineBreak_keepsBounds (s : State) : s.KeepsBounds s.lineBreak := by
  unfold State.lineBreak
  split
  · exact s.truncated_keepsBounds.trans (State.enterBreak_keepsBounds _)
  · exact .refl s

theorem State.lineBreakEnd_keepsBounds (s : State) : s.KeepsBounds s.lineBreakEnd := by
  unfold State.lineBreakEnd
  split
  · exact s.goTo_keepsBounds _ fun h => (Nat.le_add_right _ _).trans h
  · exact .refl s

/-! ### The shared operations -/

theorem State.countOnset_keepsBounds (s : State) (c : Chan) (arrival : Nat) (st : Stamp) :
    s.KeepsBounds (s.countOnset c arrival st) := by
  have moves (p : Pressure) (h : p.stable = s.press.stable) (k : p.holdIndex = s.press.holdIndex) :
      s.KeepsBounds { s with press := p } :=
    { State.KeepsBounds.refl s with pressure := fun b => ⟨h.trans_le b.1, k.trans_le b.2⟩ }
  unfold State.countOnset
  split
  · split
    · split
      · exact moves _ rfl rfl
      · refine .trans (moves _ ?_ ?_) (State.notify_keepsBounds _ _) <;> rfl
    · exact moves _ rfl rfl
  · exact .refl s

theorem State.offer_keepsBounds (s : State) (r : HitRec) : s.KeepsBounds (s.offer r) := by
  rcases s.offer_cases r with ⟨room, e⟩ | ⟨_, e⟩
  · rw [e]
    refine .trans (t := { s with hitList := insertEntry ⟨r, false⟩ s.hitList })
      { State.KeepsBounds.refl s with hitList := fun _ => by simpa using room }
      (State.modCh_keepsBounds _ _ _ fun x h => ?_)
    exact ⟨⟨Nat.min_le_left _ _, Nat.min_le_left _ _, h.hits.2.2⟩, h.faults, h.runs⟩
  · rw [e]
    refine .trans (t := { s with dropRange := _, dropFlag := true }) { State.KeepsBounds.refl s with }
      (State.modCh_keepsBounds _ _ _ fun x h => ?_)
    exact ⟨⟨Nat.min_le_left _ _, h.hits.2.1, Nat.min_le_left _ _, h.hits.2.2.2⟩, h.faults, h.runs⟩

theorem State.offerInTurn_keepsBounds (s : State) (r : HitRec) : s.KeepsBounds (s.offerInTurn r) := by
  rcases s.offerInTurn_cases r with ⟨_, e⟩ | ⟨_, e⟩
  · rw [e]; exact s.offer_keepsBounds r
  · rw [e]; exact { State.KeepsBounds.refl s with }

theorem State.takeOffers_keepsBounds (s : State) : s.KeepsBounds s.takeOffers :=
  .trans (t := { s with offers := [] }) { State.KeepsBounds.refl s with } (.foldl State.offer_keepsBounds _ _)

theorem State.toQuiet_keepsBounds (s : State) (c : Chan) : s.KeepsBounds (s.toQuiet c) :=
  s.modCh_keepsBounds c _ fun _ h => have k := Channel.applyPending_bounded h; ⟨k.hits, k.faults, k.runs⟩

theorem State.removeFromCheck_keepsBounds (s : State) (c : Chan) : s.KeepsBounds (s.removeFromCheck c) := by
  rw [State.removeFromCheck_eq]
  exact { State.KeepsBounds.refl s with }

theorem State.releaseCheck_keepsBounds (s : State) (ck : Check) : s.KeepsBounds (s.releaseCheck ck) :=
  .trans (t := { s with chk := { s.chk with check := none } }) { State.KeepsBounds.refl s with }
    (State.mapCh_keepsBounds _ _ fun c x h => by split <;> exact ⟨h.hits, h.faults, h.runs⟩)

theorem State.endSpan_keepsBounds (s : State) (ck : Check) : s.KeepsBounds (s.endSpan ck) := by
  unfold State.endSpan
  split
  · exact { State.KeepsBounds.refl s with }
  · exact .refl s

theorem State.abortCheck_keepsBounds (s : State) (why : AbortReason) : s.KeepsBounds (s.abortCheck why) := by
  unfold State.abortCheck
  split
  · exact .refl s
  · exact ((s.releaseCheck_keepsBounds _).trans (State.endSpan_keepsBounds _ _)).trans (State.notify_keepsBounds _ _)

theorem State.cutHit_keepsBounds (s : State) (c : Chan) (h : Hit) : s.KeepsBounds (s.cutHit c h) :=
  s.offerInTurn_keepsBounds _

theorem State.cutCh_keepsBounds (s : State) (c : Chan) : s.KeepsBounds (s.cutCh c) := by
  unfold State.cutCh
  split
  · refine (s.cutHit_keepsBounds c _).trans (State.modCh_keepsBounds _ _ _ fun _ h => ?_)
    exact have k := Channel.applyPending_bounded h; ⟨k.hits, k.faults, k.runs⟩
  · exact .refl s

theorem State.cutAll_keepsBounds (s : State) (cs : List Chan) : s.KeepsBounds (s.cutAll cs) :=
  .foldl State.cutCh_keepsBounds cs s

theorem State.finishCuts_keepsBounds (s : State) : s.KeepsBounds s.finishCuts := by
  unfold State.finishCuts
  split
  · exact s.takeOffers_keepsBounds
  · exact .refl s

theorem State.lastCuts_keepsBounds (s : State) : s.KeepsBounds s.lastCuts := by
  unfold State.lastCuts
  split
  · exact s.cutAll_keepsBounds _
  · exact .refl s

theorem Channel.unlock_bounded {x : Channel} (h : x.CountersBounded) : x.unlock.CountersBounded := by
  unfold Channel.unlock
  split
  · exact have k := Channel.applyPending_bounded h; ⟨k.hits, k.faults, k.runs⟩
  · exact h

theorem State.enterFreezing_keepsBounds (s : State) (why : FreezeReason) (cause : RunCause) (detail : RunDetail) :
    s.KeepsBounds (s.enterFreezing why cause detail) := by
  have begun : s.KeepsBounds (s.setFreezing why cause detail) :=
    .trans (t := s.setFreeze why) { State.KeepsBounds.refl s with }
      (((State.mapCh_keepsBounds _ _ fun _ _ => Channel.unlock_bounded).trans (State.notify_keepsBounds _ _)).trans
        (State.abortCheck_keepsBounds _ _))
  exact (begun.trans (State.cutAll_keepsBounds _ _)).trans (State.finishCuts_keepsBounds _)

theorem State.clipOnset_keepsBounds (s : State) (c : Chan) : s.KeepsBounds (s.clipOnset c) := by
  have kept : s.KeepsBounds (s.recordClip c) := { State.KeepsBounds.refl s with }
  unfold State.clipOnset
  split
  · split
    · exact kept.trans (State.enterFreezing_keepsBounds _ _ _ _)
    · exact kept
  · exact .refl s

theorem State.dropTest_keepsBounds (s : State) (pPrev pFilt : Nat) : s.KeepsBounds (s.dropTest pPrev pFilt) := by
  unfold State.dropTest
  split
  · exact s.enterFreezing_keepsBounds _ _ _
  · exact .refl s

theorem State.tellRun_keepsBounds (s : State) (cause : RunCause) (before : RunState) (detail : RunDetail) :
    s.KeepsBounds (s.tellRun cause before detail) := s.notify_keepsBounds _

end Sys2Proof.Machine
end

section
/-! PROOFS. Every step keeps the bounds: the operations of each part, then the commands. -/

namespace Sys2Proof.Machine

/-! ### Channels (02) -/

theorem State.noiseBlockEnd_keepsBounds (c : Chan) (s : State) : s.KeepsBounds (s.noiseBlockEnd c) := by
  unfold State.noiseBlockEnd
  split
  · refine s.modCh_keepsBounds c _ fun x h => ?_
    unfold Channel.endBlock
    dsimp only
    split <;> exact ⟨h.hits, h.faults, h.runs⟩
  · exact .refl s

theorem State.settlingComplete_keepsBounds (c : Chan) (s : State) : s.KeepsBounds (s.settlingComplete c) := by
  unfold State.settlingComplete
  split
  · refine (s.modCh_keepsBounds c _ fun _ h => ?_).trans (State.toQuiet_keepsBounds _ c)
    exact ⟨h.hits, h.faults, h.runs⟩
  · exact .refl s

theorem State.peakFixed_keepsBounds (c : Chan) (s : State) : s.KeepsBounds (s.peakFixed c) := by
  unfold State.peakFixed
  split
  · exact s.modCh_keepsBounds c _ fun _ h => ⟨h.hits, h.faults, h.runs⟩
  · exact .refl s

theorem State.endHit_keepsBounds (c : Chan) (h : Hit) (d : Nat) (long : Bool) (s : State) :
    s.KeepsBounds (s.endHit c h d long) := by
  unfold State.endHit
  dsimp only
  split
  · exact (s.offerInTurn_keepsBounds _).trans (State.toQuiet_keepsBounds _ c)
  · refine (s.offerInTurn_keepsBounds _).trans (State.modCh_keepsBounds _ c _ fun _ h => ?_)
    exact ⟨h.hits, h.faults, h.runs⟩

theorem State.hitEnd_keepsBounds (c : Chan) (s : State) : s.KeepsBounds (s.hitEnd c) := by
  unfold State.hitEnd
  split
  · split
    · exact s.endHit_keepsBounds c _ _ _
    · exact .refl s
  · exact .refl s

theorem State.forcedEnd_keepsBounds (c : Chan) (s : State) : s.KeepsBounds (s.forcedEnd c) := by
  unfold State.forcedEnd
  split
  · split
    · exact s.endHit_keepsBounds c _ _ _
    · exact .refl s
  · exact .refl s

theorem State.lockoutEnd_keepsBounds (c : Chan) (s : State) : s.KeepsBounds (s.lockoutEnd c) := by
  unfold State.lockoutEnd
  split
  · split
    · exact s.toQuiet_keepsBounds c
    · exact .refl s
  · exact .refl s

theorem State.enterFault_keepsBounds (c : Chan) (s : State) : s.KeepsBounds (s.enterFault c) := by
  refine (s.modCh_keepsBounds c _ fun x h => ?_).trans (State.notify_keepsBounds _ _)
  exact have k := Channel.applyPending_bounded h; ⟨k.hits, Nat.min_le_left _ _, k.runs⟩

theorem State.loseLane_keepsBounds (c : Chan) (s : State) : s.KeepsBounds (s.loseLane c) := by
  have lost : s.KeepsBounds (s.modCh c fun x => { x with lane := .lost, goodRun := 0 }) :=
    s.modCh_keepsBounds c _ fun _ h => ⟨h.hits, h.faults, h.runs.1, Nat.zero_le _⟩
  have leaves (u : State) : u.KeepsBounds ((u.removeFromCheck c).enterFault c) :=
    (u.removeFromCheck_keepsBounds c).trans (State.enterFault_keepsBounds c _)
  unfold State.loseLane
  dsimp only
  split
  · exact lost
  · exact (lost.trans (State.cutHit_keepsBounds _ c _)).trans (leaves _)
  · exact lost.trans (leaves _)

theorem State.laneLost_keepsBounds (c : Chan) (s : State) : s.KeepsBounds (s.laneLost c) := by
  unfold State.laneLost
  split
  · split
    · split
      · exact s.loseLane_keepsBounds c
      · exact .refl s
    · exact s.loseLane_keepsBounds c
  · exact .refl s

theorem State.laneRecovered_keepsBounds (c : Chan) (s : State) : s.KeepsBounds (s.laneRecovered c) := by
  have good : s.KeepsBounds (s.modCh c fun x => { x with lane := .good, goodRun := 0 }) :=
    s.modCh_keepsBounds c _ fun _ h => ⟨h.hits, h.faults, h.runs.1, Nat.zero_le _⟩
  unfold State.laneRecovered
  split
  · dsimp only
    split
    · refine (good.trans (State.modCh_keepsBounds _ c _ fun _ h => ?_)).trans (State.notify_keepsBounds _ _)
      exact ⟨h.hits, h.faults, h.runs⟩
    · exact good
  · exact .refl s

theorem State.catchUp_keepsBounds (s : State) (c : Chan) : s.KeepsBounds (s.catchUp c) :=
  (((((s.noiseBlockEnd_keepsBounds c).trans (State.settlingComplete_keepsBounds c _)).trans
    (State.hitEnd_keepsBounds c _)).trans (State.forcedEnd_keepsBounds c _)).trans
    (State.lockoutEnd_keepsBounds c _)).trans
    ((State.laneLost_keepsBounds c _).trans (State.laneRecovered_keepsBounds c _))

theorem State.allSeen_keepsBounds (s : State) : s.KeepsBounds s.allSeen :=
  s.mapCh_keepsBounds _ fun _ _ h => ⟨h.hits, h.faults, h.runs⟩

theorem State.closeSample_keepsBounds (s : State) : s.KeepsBounds s.closeSample :=
  ((s.allSeen_keepsBounds.trans (State.lastCuts_keepsBounds _)).trans
    (.foldl State.catchUp_keepsBounds _ _)).trans (State.takeOffers_keepsBounds _)

theorem State.openHit_keepsBounds (c : Chan) (mag : Nat) (clip : Bool) (s : State) :
    s.KeepsBounds (s.openHit c mag clip) := by
  have opened : s.KeepsBounds ((s.modCh c fun x =>
      { x with state := .hit (Hit.opened s.tick mag clip s.press.stamp), blockBad := true }).countOnset c s.tick
        s.press.stamp) := by
    refine (s.modCh_keepsBounds c _ fun _ h => ?_).trans (State.countOnset_keepsBounds _ _ _ _)
    exact ⟨h.hits, h.faults, h.runs⟩
  unfold State.openHit
  dsimp only
  split
  · exact opened.trans (State.clipOnset_keepsBounds _ c)
  · exact opened

theorem State.sampleHit_keepsBounds (c : Chan) (h : Hit) (mag : Nat) (count clip : Bool) (s : State) :
    s.KeepsBounds (s.sampleHit c h mag count clip) := by
  have sampled : s.KeepsBounds (s.modCh c fun x => { x with state := .hit (h.sample x.cfg.pdt s.tick mag count clip) }) :=
    s.modCh_keepsBounds c _ fun _ h => ⟨h.hits, h.faults, h.runs⟩
  unfold State.sampleHit
  dsimp only
  split
  · exact sampled.trans (State.clipOnset_keepsBounds _ c)
  · exact sampled

theorem State.sampleTesting_keepsBounds (c : Chan) (mag : Nat) (count : Bool) (s : State) :
    s.KeepsBounds (s.sampleTesting c mag count) := by
  unfold State.sampleTesting
  (repeat' split) <;> exact { State.KeepsBounds.refl s with }

theorem State.afterHitSample_keepsBounds (c : Chan) (before : RunState) (s : State) :
    s.KeepsBounds (s.afterHitSample c before) := by
  unfold State.afterHitSample
  split
  · exact (s.cutCh_keepsBounds c).trans (State.finishCuts_keepsBounds _)
  · exact .refl s

theorem Channel.noiseFrame_bounded {x : Channel} (mag : Option Nat) (h : x.CountersBounded) :
    (x.noiseFrame mag).CountersBounded := by
  unfold Channel.noiseFrame
  split <;> exact ⟨h.hits, h.faults, h.runs⟩

theorem Channel.validFrame_bounded {x : Channel} (h : x.CountersBounded) : x.validFrame.CountersBounded := by
  refine ⟨h.hits, h.faults, Nat.zero_le _, ?_⟩
  unfold Channel.validFrame
  dsimp only
  split
  · exact h.runs.2
  · exact Nat.min_le_left _ _

theorem Channel.missedFrame_bounded {x : Channel} (h : x.CountersBounded) : x.missedFrame.CountersBounded := by
  refine ⟨h.hits, h.faults, Nat.min_le_left _ _, ?_⟩
  unfold Channel.missedFrame
  dsimp only
  split
  · exact h.runs.2
  · exact Nat.zero_le _

theorem State.takeSample_keepsBounds (c : Chan) (sample : Sample) (s : State) :
    s.KeepsBounds (s.takeSample c sample) := by
  have taken : s.KeepsBounds (s.modCh c fun y =>
      { (y.validFrame).noiseFrame (some (magnitude sample)) with prevMag := magnitude sample, frameSeen := true }) :=
    s.modCh_keepsBounds c _ fun x h =>
      have k := Channel.noiseFrame_bounded (some (magnitude sample)) (Channel.validFrame_bounded h)
      ⟨k.hits, k.faults, k.runs⟩
  unfold State.takeSample
  dsimp only
  split
  · split
    · exact taken.trans (State.openHit_keepsBounds c _ _ _)
    · exact taken
  · exact taken.trans ((State.sampleHit_keepsBounds c _ _ _ _ _).trans (State.afterHitSample_keepsBounds c _ _))
  · exact taken.trans (State.sampleTesting_keepsBounds c _ _ _)
  · exact taken

theorem State.takeMissing_keepsBounds (c : Chan) (s : State) : s.KeepsBounds (s.takeMissing c) := by
  have taken : s.KeepsBounds (s.modCh c fun y =>
      { (y.missedFrame).noiseFrame none with prevMag := 0, frameSeen := true }) :=
    s.modCh_keepsBounds c _ fun x h =>
      have k := Channel.noiseFrame_bounded none (Channel.missedFrame_bounded h)
      ⟨k.hits, k.faults, k.runs⟩
  unfold State.takeMissing
  dsimp only
  split
  · exact taken.trans (State.afterHitSample_keepsBounds c _ _)
  · exact taken

theorem State.laneSample_keepsBounds (c : Chan) (sample : Sample) (s : State) :
    s.KeepsBounds (s.laneSample c sample) := by
  unfold State.laneSample
  split
  · exact .refl s
  · exact (s.catchUp_keepsBounds c).trans (State.takeSample_keepsBounds c sample _)

theorem State.missingFrame_keepsBounds (c : Chan) (s : State) : s.KeepsBounds (s.missingFrame c) := by
  unfold State.missingFrame
  split
  · exact .refl s
  · exact (s.catchUp_keepsBounds c).trans (State.takeMissing_keepsBounds c _)

theorem Channel.applyThr_bounded {x : Channel} (code : Nat) (h : x.CountersBounded) :
    (x.applyThr code).CountersBounded := by
  unfold Channel.applyThr
  split <;> exact ⟨h.hits, h.faults, h.runs⟩

theorem Channel.takeThr_bounded {x : Channel} (carried : Option Nat) (h : x.CountersBounded) :
    (x.takeThr carried).CountersBounded := by
  unfold Channel.takeThr
  split
  · exact h
  · split
    · exact ⟨h.hits, h.faults, h.runs⟩
    · exact ⟨h.hits, h.faults, h.runs⟩
    · exact Channel.applyThr_bounded _ h

theorem Channel.takeMode_bounded {x : Channel} (carried : Option Nat) (h : x.CountersBounded) :
    (x.takeMode carried).CountersBounded := by
  unfold Channel.takeMode
  split
  · exact h
  · split
    · exact h
    · exact ⟨h.hits, h.faults, h.runs⟩

theorem State.takeEnable_keepsBounds (c : Chan) (carried : Option Nat) (s : State) :
    s.KeepsBounds (s.takeEnable c carried) := by
  have enabled : s.KeepsBounds (s.modCh c fun x => { x with cfg := { x.cfg with enable := true } }) :=
    s.modCh_keepsBounds c _ fun _ h => ⟨h.hits, h.faults, h.runs⟩
  unfold State.takeEnable
  split
  · exact .refl s
  · exact s.modCh_keepsBounds c _ fun _ h => ⟨h.hits, h.faults, h.runs⟩
  · split
    · dsimp only
      split
      · refine enabled.trans (State.modCh_keepsBounds _ c _ fun _ h => ?_)
        exact ⟨h.hits, h.faults, h.runs⟩
      · exact enabled.trans (State.enterFault_keepsBounds c _)
    · exact .refl s

theorem State.setChannel_keepsBounds (i : ChanItems) (s : State) (c : Chan) : s.KeepsBounds (s.setChannel i c) := by
  refine (s.modCh_keepsBounds c _ fun x h => ?_).trans (State.takeEnable_keepsBounds c _ _)
  exact have k := Channel.takeMode_bounded i.mode (Channel.takeThr_bounded i.thrCode h)
    ⟨k.hits, k.faults, k.runs⟩

/-! ### Pressure (01) -/

theorem Pressure.compute_fits {p : Pressure} (h : p.stable ≤ 65535 ∧ p.holdIndex ≤ 255) (pf : Nat) :
    (p.compute pf).stable ≤ 65535 ∧ (p.compute pf).holdIndex ≤ 255 := by
  obtain ⟨x, y, z, e⟩ := p.compute_eq pf
  rw [e]
  unfold Pressure.nextStable
  dsimp only
  constructor
  · split
    · exact Nat.min_le_left _ _
    · exact Nat.zero_le _
  · split
    · exact Nat.min_le_left _ _
    · exact h.2

theorem State.tellPhase_keepsBounds (s : State) (old : Phase) : s.KeepsBounds (s.tellPhase old) := by
  unfold State.tellPhase
  split
  · exact .refl s
  · dsimp only
    split
    · exact s.notify_keepsBounds _
    · split
      · exact (s.notify_keepsBounds _).trans (State.abortCheck_keepsBounds _ _)
      · exact s.notify_keepsBounds _

theorem State.useP_keepsBounds (s : State) (history : List Nat) (P : Nat) : s.KeepsBounds (s.useP history P) := by
  have computed (h : List Nat) :
      s.KeepsBounds { s with press := Pressure.compute { s.press with history := h, awaiting := false } (meanOf h) } :=
    { State.KeepsBounds.refl s with
      pressure := fun b => Pressure.compute_fits (p := { s.press with history := h, awaiting := false }) b _ }
  unfold State.useP
  dsimp only
  split
  · exact (computed _).trans (State.tellPhase_keepsBounds _ _)
  · exact ((computed _).trans (State.tellPhase_keepsBounds _ _)).trans (State.dropTest_keepsBounds _ _ _)

theorem State.takeFlag_keepsBounds (s : State) (code : Code) : s.KeepsBounds (s.takeFlag code) := by
  unfold State.takeFlag
  split
  · exact .refl s
  · refine .trans (t := { s with press := { s.press with
      flag := s.press.nextFlag code.toNat, flagChanged := true } }) ?_ (State.notify_keepsBounds _ _)
    exact { State.KeepsBounds.refl s with }

theorem State.conversionComplete_keepsBounds (code : Code) (s : State) :
    s.KeepsBounds (s.conversionComplete code) := by
  have ended : s.KeepsBounds { s with press := { s.press with converting := false } } :=
    { State.KeepsBounds.refl s with }
  unfold State.conversionComplete State.takeCode
  dsimp only
  split
  · split
    · exact (ended.trans (State.takeFlag_keepsBounds _ code)).trans (State.useP_keepsBounds _ _ _)
    · exact ended.trans (State.takeFlag_keepsBounds _ code)
  · exact .refl s

theorem State.pressurePeriod_keepsBounds (s : State) : s.KeepsBounds s.pressurePeriod := by
  unfold State.pressurePeriod
  split <;> exact { State.KeepsBounds.refl s with }

/-! ### The activity map (06) and the locator (05) -/

theorem Cell.add_fits {x : Cell} (h : x.Fits) (e : EventRec) : (x.add e).Fits := by
  refine ⟨Nat.min_le_left _ _, ?_, ?_, Nat.min_le_left _ _⟩
  · unfold Cell.add
    dsimp only
    split
    · exact Nat.min_le_left _ _
    · exact h.2.1
  · unfold Cell.add
    dsimp only
    split
    · exact Nat.min_le_left _ _
    · exact h.2.2.1

theorem Cell.cleared_fits : Cell.cleared.Fits := by unfold Cell.Fits; decide

theorem ActMap.cell_fits {m : ActMap} (h : ∀ x ∈ m.cells, x.Fits) (i : Nat) : (m.cell i).Fits := by
  unfold ActMap.cell
  rw [List.getD_eq_getElem?_getD]
  cases e : m.cells[i]? with
  | none => exact Cell.cleared_fits
  | some x => exact h x (List.mem_of_getElem? e)

/-- From m to n the map keeps its grid, and its counters stay within their fields. -/
structure ActMap.KeepsBounds (m n : ActMap) : Prop where
  cells : (∀ x ∈ m.cells, x.Fits) → ∀ x ∈ n.cells, x.Fits
  zones : (∀ c : Chan, (m.zones[c]).Fits) → ∀ c : Chan, (n.zones[c]).Fits
  grid : n.cells.length = m.cells.length

theorem State.keepsBounds_of_map {s : State} {m : ActMap} (h : s.map.KeepsBounds m) : s.KeepsBounds { s with map := m } :=
  { State.KeepsBounds.refl s with
    cells := h.cells
    zones := h.zones
    grid := fun g => by
      change GridFits m.cells.length s.loc.geom s.loc.v
      rw [h.grid]
      exact g }

theorem ActMap.setCell_keepsBounds (m : ActMap) (i : Nat) (x : Cell) (h : (∀ y ∈ m.cells, y.Fits) → x.Fits) :
    m.KeepsBounds (m.setCell i x) :=
  ⟨fun b y hy => (List.mem_or_eq_of_mem_set hy).elim (b y) fun e => e ▸ h b, id, List.length_set⟩

theorem ActMap.KeepsBounds.trans {m n p : ActMap} (h : m.KeepsBounds n) (k : n.KeepsBounds p) : m.KeepsBounds p :=
  ⟨k.cells ∘ h.cells, k.zones ∘ h.zones, k.grid.trans h.grid⟩

theorem ActMap.rise_keepsBounds (m : ActMap) (line : Fin 4) (new : CellLevel) : m.KeepsBounds (m.rise line new) := by
  unfold ActMap.rise
  split <;> exact ⟨id, id, rfl⟩

theorem ActMap.land_keepsBounds (m : ActMap) (nc nr : Nat) (e : EventRec) (col row : Nat) :
    m.KeepsBounds (m.land nc nr e col row) := by
  unfold ActMap.land
  dsimp only
  have added := m.setCell_keepsBounds (row * nc + col) ((m.cell (row * nc + col)).add e) fun b =>
    Cell.add_fits (ActMap.cell_fits b _) e
  split
  · exact added
  · refine added.trans (ActMap.KeepsBounds.trans (ActMap.setCell_keepsBounds _ _ _ fun b => ?_)
      (ActMap.rise_keepsBounds _ _ _))
    exact ActMap.cell_fits b _

theorem State.accumulate_keepsBounds (s : State) (nc nr : Nat) (e : EventRec) (p : LocPart) :
    s.KeepsBounds (s.accumulate nc nr e p) := by
  unfold State.accumulate
  dsimp only
  have landed : s.KeepsBounds { s with map := s.map.land nc nr e p.col p.row } :=
    State.keepsBounds_of_map (ActMap.land_keepsBounds _ _ _ _ _ _)
  split
  · exact landed
  · exact landed.trans (State.notify_keepsBounds _ _)

theorem ZoneCount.add_fits {z : ZoneCount} (h : z.Fits) (e : EventRec) : (z.add e).Fits := by
  refine ⟨Nat.min_le_left _ _, ?_, ?_⟩
  · unfold ZoneCount.add
    dsimp only
    split
    · exact Nat.min_le_left _ _
    · exact h.2.1
  · unfold ZoneCount.add
    dsimp only
    split
    · exact Nat.min_le_left _ _
    · exact h.2.2

theorem ActMap.countZone_keepsBounds (m : ActMap) (e : EventRec) : m.KeepsBounds (m.countZone e) := by
  refine ⟨id, fun b c => ?_, rfl⟩
  have : (m.countZone e).zones[c] = if e.firstChannel.val = c.val then (m.zones[e.firstChannel]).add e else m.zones[c] :=
    Vector.getElem_set e.firstChannel.isLt c.isLt
  rw [this]
  split
  · exact ZoneCount.add_fits (b _) e
  · exact b c

/-- Clearing the map clears every counter; the grid has n cells (R112, R125). -/
theorem ActMap.clearTo_fits (m : ActMap) (n : Nat) :
    (∀ x ∈ (m.clearTo n).cells, x.Fits) ∧ (∀ c : Chan, ((m.clearTo n).zones[c]).Fits) ∧
      (m.clearTo n).cells.length = n := by
  refine ⟨fun x h => ?_, fun c => ?_, List.length_replicate⟩
  · rw [List.eq_of_mem_replicate h]
    exact Cell.cleared_fits
  · have : (m.clearTo n).zones[c] = ⟨0, 0, 0⟩ := Vector.getElem_replicate c.isLt
    rw [this]
    exact ⟨Nat.zero_le _, Nat.zero_le _, Nat.zero_le _⟩

theorem ActMap.clear_keepsBounds (m : ActMap) : m.KeepsBounds m.clear :=
  have f := m.clearTo_fits m.cells.length
  ⟨fun _ => f.1, fun _ => f.2.1, f.2.2⟩

theorem State.locationStart_keepsBounds (s : State) : s.KeepsBounds s.locationStart := by
  unfold State.locationStart
  split
  · next e rest g _ queue geom =>
    exact { State.KeepsBounds.refl s with
      locQueue := fun h => by rw [queue] at h; exact Nat.le_of_succ_le h }
  · exact .refl s

theorem State.locationEnd_keepsBounds (s : State) : s.KeepsBounds s.locationEnd := by
  have freed (b : Locating) : s.KeepsBounds (s.freeLocator b) :=
    { State.KeepsBounds.refl s with
      arming := fun h => by
        unfold State.freeLocator
        dsimp only
        split
        · exact ⟨h.1, Nat.min_le_left _ _⟩
        · exact h }
  unfold State.locationEnd
  split
  · exact .refl s
  · split
    · dsimp only
      split
      · exact ((freed _).trans (State.report_keepsBounds _ _)).trans (State.accumulate_keepsBounds _ _ _ _ _)
      · exact (freed _).trans (State.report_keepsBounds _ _)
    · exact .refl s

/-! ### The associator (04) -/

theorem takeFirst_length (l : List Entry) : (takeFirst l).length = l.length := by
  induction l with
  | nil => rfl
  | cons e es ih => simp only [takeFirst]; split <;> simp [ih]

theorem dropFirst_sublist (l : List Entry) : (dropFirst l).Sublist l := by
  induction l with
  | nil => exact .slnil
  | cons e es ih =>
    simp only [dropFirst]
    split
    · exact ih.cons_cons e
    · exact List.sublist_cons_self e es

theorem State.lone_keepsBounds (s : State) (r : HitRec) (why : LoneReason) : s.KeepsBounds (s.lone r why) := by
  refine (s.modCh_keepsBounds r.channel _ fun _ h => ?_).trans (State.report_keepsBounds _ _)
  exact ⟨⟨h.hits.1, h.hits.2.1, h.hits.2.2.1, Nat.min_le_left _ _⟩, h.faults, h.runs⟩

theorem State.releaseEntry_keepsBounds (s : State) (r : HitRec) (why : LoneReason) :
    s.KeepsBounds (s.releaseEntry r why) :=
  .trans (t := { s with hitList := dropFirst s.hitList })
    { State.KeepsBounds.refl s with hitList := (dropFirst_sublist _).length_le.trans } (State.lone_keepsBounds _ r why)

theorem State.routeEvent_keepsBounds (s : State) (e : EventRec) (first : HitRec) (ms : List HitRec) :
    s.KeepsBounds (s.routeEvent e first ms) := by
  have counted : s.KeepsBounds { s with map := s.map.countZone e } :=
    State.keepsBounds_of_map (ActMap.countZone_keepsBounds _ _)
  unfold State.routeEvent
  dsimp only
  split
  · exact counted.trans (State.report_keepsBounds _ _)
  · next queued =>
    refine counted.trans { State.KeepsBounds.refl _ with locQueue := fun _ => ?_ }
    have room : ¬Config.locQueueCap ≤ s.loc.queue.length := by
      unfold State.route at queued
      (repeat' split at queued) <;> simp_all
    rw [List.length_append]
    exact Nat.not_le.mp room

theorem State.closeEvent_keepsBounds (s : State) (o : OpenEvent) (first : HitRec) (ms : List HitRec) :
    s.KeepsBounds (s.closeEvent o first ms) := by
  have numbered : s.KeepsBounds (s.numberEvent o) :=
    { State.KeepsBounds.refl s with arming := fun h => ⟨Nat.min_le_left _ _, h.2⟩ }
  unfold State.closeEvent
  dsimp only
  split
  · exact numbered.trans (State.report_keepsBounds _ _)
  · exact numbered.trans (State.routeEvent_keepsBounds _ _ _ _)

theorem State.close_keepsBounds (s : State) (o : OpenEvent) : s.KeepsBounds (s.close o) := by
  unfold State.close
  dsimp only
  refine .trans (t := { s with
      hitList := s.hitList.filter fun e => !e.taken
      assoc := { s.assoc with openEvent := none } }) ?_ ?_
  · exact { State.KeepsBounds.refl s with hitList := (List.length_filter_le _ _).trans }
  · split
    · exact .refl _
    · exact State.lone_keepsBounds _ _ _
    · exact State.closeEvent_keepsBounds _ _ _ _

theorem State.decideClosed_keepsBounds (s : State) (r : HitRec) : s.KeepsBounds (s.decideClosed r) := by
  unfold State.decideClosed
  split
  · exact s.releaseEntry_keepsBounds r _
  · split
    · exact s.releaseEntry_keepsBounds r _
    · exact { State.KeepsBounds.refl s with hitList := (takeFirst_length _).trans_le }

theorem State.decideOpen_keepsBounds (s : State) (r : HitRec) : s.KeepsBounds (s.decideOpen r) := by
  unfold State.decideOpen
  split
  · exact s.releaseEntry_keepsBounds r _
  · split
    · exact s.releaseEntry_keepsBounds r _
    · split
      · exact s.releaseEntry_keepsBounds r _
      · exact { State.KeepsBounds.refl s with hitList := (takeFirst_length _).trans_le }

theorem State.moveTo_keepsBounds (s : State) (t : Nat) : s.KeepsBounds (s.moveTo t) :=
  { State.KeepsBounds.refl s with }

theorem State.handOver_keepsBounds (s : State) : s.KeepsBounds s.handOver := by
  unfold State.handOver State.decideEntry
  split
  · exact .refl s
  · refine .trans ?_ (State.moveTo_keepsBounds _ _)
    split
    · exact s.decideClosed_keepsBounds _
    · split
      · exact s.decideOpen_keepsBounds _
      · exact (s.close_keepsBounds _).trans (State.decideClosed_keepsBounds _ _)

theorem State.closeByHorizon_keepsBounds (s : State) : s.KeepsBounds s.closeByHorizon := by
  unfold State.closeByHorizon
  split
  · exact .refl s
  · split
    · exact (s.close_keepsBounds _).trans (State.moveTo_keepsBounds _ _)
    · exact .refl s

/-! ### The check unit (07) -/

theorem State.beginCheck_keepsBounds (s : State) (ck : Check) (policy : Policy) :
    s.KeepsBounds (s.beginCheck ck policy) := by
  have claimed : s.KeepsBounds (State.mapCh { s with chk := { s.chk with check := some ck, policy := policy } }
      fun c x => if ck.involved[c] then
        { x with state := if x.state = .quiet then .testing else x.state, leftCheck := false } else x) :=
    .trans (t := { s with chk := { s.chk with check := some ck, policy := policy } }) { State.KeepsBounds.refl s with }
      (State.mapCh_keepsBounds _ _ fun c x h => by split <;> exact ⟨h.hits, h.faults, h.runs⟩)
  unfold State.beginCheck
  dsimp only
  split
  · exact claimed.trans { State.KeepsBounds.refl _ with }
  · exact claimed

/-- Whatever the check unit becomes, no bound asks it. -/
theorem State.keepsBounds_of_chk (s : State) (k : CheckUnit) : s.KeepsBounds { s with chk := k } :=
  { State.KeepsBounds.refl s with }

theorem State.gatheringComplete_keepsBounds (s : State) : s.KeepsBounds s.gatheringComplete := by
  unfold State.gatheringComplete
  (repeat' split) <;> exact s.keepsBounds_of_chk _

theorem State.pulse_keepsBounds (s : State) : s.KeepsBounds s.pulse := by
  unfold State.pulse
  (repeat' split) <;> exact s.keepsBounds_of_chk _

theorem State.listeningWindowEnd_keepsBounds (s : State) : s.KeepsBounds s.listeningWindowEnd := by
  unfold State.listeningWindowEnd
  (repeat' split) <;> exact s.keepsBounds_of_chk _

theorem State.feedPattern_keepsBounds (s : State) : s.KeepsBounds s.feedPattern := by
  unfold State.feedPattern
  (repeat' split) <;> exact s.keepsBounds_of_chk _

theorem State.patternOutcome_keepsBounds (s : State) (c : Chan) : s.KeepsBounds (s.patternOutcome c) := by
  unfold State.patternOutcome
  (repeat' split) <;> exact s.keepsBounds_of_chk _

/-- A pair velocity is valid only in the range of the velocity (R140). -/
theorem Locator.pairVel_valid {l : Locator} {p q : Chan} {m : Meas} {v : Nat} (h : l.pairVel p q m = .valid v) :
    500 ≤ v ∧ v ≤ 9999 := by
  unfold Locator.pairVel at h
  split at h
  · cases h
  · cases h
  · split at h
    · split at h
      · cases h
      · split at h
        · next inRange => cases h; exact inRange
        · cases h
    · cases h

/-- Every valid pair velocity that a check measured lies in the range of the velocity (R140). -/
theorem validVels_inRange (s : State) (ck : Check) :
    ∀ v ∈ validVels (s.pairResults ck), 500 ≤ v ∧ v ≤ 9999 := by
  intro v h
  unfold validVels at h
  generalize allPairs = pairs at h
  obtain ⟨i, -, given⟩ := List.mem_filterMap.mp h
  have vel : ((s.pairResults ck)[i]).vel = s.loc.pairVel (pairPulser i) (pairListener i) ck.pairs[i] := by
    simp [State.pairResults]
  split at given
  · next w e =>
    cases given
    exact Locator.pairVel_valid (vel.symm.trans e)
  · cases given
  · cases given

/-- The estimate is one of the velocities it is taken from (R141). -/
theorem estimateOf_mem {vels : List Nat} {v : Nat} (h : estimateOf vels = some v) : v ∈ vels :=
  (List.mem_insertionSort _).mp (List.mem_of_getElem? h)

theorem State.nextVelocity_inRange {s : State} (h : 500 ≤ s.loc.v ∧ s.loc.v ≤ 9999) (ck : Check) {vels : List Nat}
    (valid : ∀ v ∈ vels, 500 ≤ v ∧ v ≤ 9999) :
    500 ≤ s.nextVelocity ck vels ∧ s.nextVelocity ck vels ≤ 9999 := by
  unfold State.nextVelocity
  split
  · cases e : estimateOf vels with
    | none => exact h
    | some v => exact valid v (estimateOf_mem e)
  · exact h

theorem State.changeVerdict_keepsBounds (s0 : State) (ck : Check) (s : State) (c : Chan) :
    s.KeepsBounds (State.changeVerdict s0 ck s c) := by
  unfold State.changeVerdict
  split
  · exact .refl s
  · refine (s.modCh_keepsBounds c _ fun _ h => ?_).trans (State.notify_keepsBounds _ _)
    exact ⟨h.hits, h.faults, h.runs⟩

/-- What a completed check leaves fits the grid of the state in which it completed: the velocity is in its range. -/
theorem State.keepPairs_keepsBounds {s0 s : State} (ck : Check) (same : s.loc = s0.loc) :
    s.KeepsBounds (State.keepPairs s0 ck s) :=
  { State.KeepsBounds.refl s with
    grid := fun g => ⟨g.cells, g.geom, State.nextVelocity_inRange (same ▸ g.v) ck (validVels_inRange s0 ck)⟩ }

theorem State.checkComplete_keepsBounds (s : State) : s.KeepsBounds s.checkComplete := by
  unfold State.checkComplete
  split
  · exact .refl s
  · next ck _ =>
    split
    · refine .trans ?_ (State.notify_keepsBounds _ _)
      refine ((s.releaseCheck_keepsBounds ck).trans (State.endSpan_keepsBounds _ ck)).trans ?_
      unfold State.keepResult
      split
      · exact .refl _
      · exact (State.keepPairs_keepsBounds ck (by simp)).trans (.foldl (State.changeVerdict_keepsBounds s ck) _ _)
    · exact .refl s

/-! ### The report unit's own steps (10) -/

theorem State.frameSent_keepsBounds (s : State) : s.KeepsBounds s.frameSent := by
  unfold State.frameSent
  split
  · refine .trans (t := { s with rep := { s.rep with tx := none } }) ?_ (State.choose_keepsBounds _)
    exact State.keepsBounds_of_rep ⟨fun q => ⟨q.notices, q.data, q.level⟩, id⟩
  · exact .refl s

theorem State.setHrdy_keepsBounds (s : State) (level : Bool) : s.KeepsBounds (s.setHrdy level) :=
  State.keepsBounds_of_rep ⟨fun q => ⟨q.notices, q.data, q.level⟩, id⟩

theorem State.hrdyChange_keepsBounds (level : Bool) (s : State) : s.KeepsBounds (s.hrdyChange level) := by
  unfold State.hrdyChange
  split
  · exact (s.setHrdy_keepsBounds true).trans (State.choose_keepsBounds _)
  · exact s.setHrdy_keepsBounds level

theorem State.ageLimit_keepsBounds (s : State) : s.KeepsBounds s.ageLimit := by
  unfold State.ageLimit
  split
  · exact s.choose_keepsBounds
  · exact .refl s

theorem State.summaryTimer_keepsBounds (s : State) : s.KeepsBounds s.summaryTimer := by
  unfold State.summaryTimer
  split
  · refine .trans (t := { s with rep := { s.rep with timer := _, snapshot := _ } }) ?_ (State.notify_keepsBounds _ _)
    exact State.keepsBounds_of_rep ⟨fun q => ⟨q.notices, q.data, q.level⟩, id⟩
  · exact .refl s

/-! ### Run control (08) and the timebase (01) -/

theorem State.drainComplete_keepsBounds (s : State) : s.KeepsBounds s.drainComplete := by
  unfold State.drainComplete
  split
  · refine .trans (t := s.setRun .frozen) { State.KeepsBounds.refl s with } (State.tellRun_keepsBounds _ _ _ _)
  · exact .refl s

theorem State.restart_keepsBounds (s : State) (run : RunState) : s.KeepsBounds (s.restart run) where
  pending := rfl
  tick _ := Nat.zero_le _
  hitList _ := Nat.zero_le _
  locQueue _ := Nat.zero_le _
  slots h := h
  queues q := ⟨q.notices, Nat.zero_le _, Nat.le_refl _⟩
  channels c h := by
    have : (s.restart run).ch c = (s.ch c).restart := by simp [State.ch, State.restart]
    rw [this]
    exact ⟨⟨Nat.zero_le _, Nat.zero_le _, Nat.zero_le _, Nat.zero_le _⟩, Nat.zero_le _, h.runs⟩
  pressure _ := ⟨Nat.zero_le _, Nat.zero_le _⟩
  cells _ := s.map.clear_keepsBounds.cells ‹_›
  zones _ := s.map.clear_keepsBounds.zones ‹_›
  arming _ := ⟨Nat.zero_le _, Nat.zero_le _⟩
  errors h := h
  lost h := h
  grid g := by
    change GridFits s.map.clear.cells.length s.loc.geom s.loc.v
    rw [s.map.clear_keepsBounds.grid]
    exact g

theorem State.resume_keepsBounds (s : State) : s.KeepsBounds s.resume :=
  { State.KeepsBounds.refl s with
    hitList := fun _ => Nat.zero_le _
    locQueue := fun _ => Nat.zero_le _
    queues := fun q => ⟨q.notices, q.data, q.level⟩
    channels := fun c h => by
      have : s.resume.ch c = (s.ch c).clearHits := by simp [State.ch, State.resume]
      rw [this]
      exact ⟨⟨Nat.zero_le _, Nat.zero_le _, Nat.zero_le _, Nat.zero_le _⟩, h.faults, h.runs⟩
    arming := fun _ => ⟨Nat.zero_le _, Nat.zero_le _⟩ }

theorem State.armFresh_keepsBounds (s : State) : s.KeepsBounds s.armFresh :=
  (s.restart_keepsBounds .armed).trans (State.tellRun_keepsBounds _ _ _ _)

theorem State.armResume_keepsBounds (s : State) : s.KeepsBounds s.armResume := by
  unfold State.armResume
  dsimp only
  split
  · exact (s.resume_keepsBounds.trans (State.tellRun_keepsBounds _ _ _ _)).trans (State.enterFreezing_keepsBounds _ _ _ _)
  · exact s.resume_keepsBounds.trans (State.tellRun_keepsBounds _ _ _ _)

theorem State.resetRun_keepsBounds (s : State) : s.KeepsBounds s.resetRun :=
  (((s.lastCuts_keepsBounds.trans (State.takeOffers_keepsBounds _)).trans (State.restart_keepsBounds _ .idle)).trans
    (State.keepsBounds_of_chk _ _)).trans (State.tellRun_keepsBounds _ _ _ _)

/-- Every bound holds of the defaults, with any line rate and receiver state that assembles no frame (R163). -/
theorem State.keepsBounds_of_defaults (s u : State) (pending : u.pending = s.pending) (tick : u.tick = 0)
    (hitList : u.hitList = []) (loc : u.loc = Locator.reset) (slots : u.link.SlotsFit) (queues : u.rep.QueuesFit)
    (channels : ∀ c, u.ch c = Channel.reset) (pressure : u.press.stable = 0 ∧ u.press.holdIndex = 0)
    (map : u.map = ActMap.reset) (arming : u.ctl.numbered = 0 ∧ u.ctl.located = 0) (errors : u.link.ErrorsFit)
    (lost : u.rep.LostFit) : s.KeepsBounds u where
  pending := pending
  tick _ := tick ▸ Nat.zero_le _
  hitList _ := by rw [hitList]; exact Nat.zero_le _
  locQueue _ := by rw [loc]; exact Nat.zero_le _
  slots _ := slots
  queues _ := queues
  channels c _ := by
    rw [channels c]
    exact ⟨⟨Nat.zero_le _, Nat.zero_le _, Nat.zero_le _, Nat.zero_le _⟩, Nat.zero_le _, Nat.zero_le _, Nat.zero_le _⟩
  pressure _ := by rw [pressure.1, pressure.2]; exact ⟨Nat.zero_le _, Nat.zero_le _⟩
  cells _ x h := by rw [map] at h; cases h
  zones _ c := by
    have : u.map.zones[c] = ⟨0, 0, 0⟩ := by rw [map]; exact Vector.getElem_replicate c.isLt
    rw [this]
    exact ⟨Nat.zero_le _, Nat.zero_le _, Nat.zero_le _⟩
  arming _ := by rw [arming.1, arming.2]; exact ⟨Nat.zero_le _, Nat.zero_le _⟩
  errors _ := errors
  lost _ := lost
  grid _ := by
    rw [loc, map]
    exact ⟨rfl, (fun g h => by cases h), by decide, by decide⟩

theorem State.fullReset_keepsBounds (s : State) : s.KeepsBounds s.fullReset :=
  s.keepsBounds_of_defaults _ rfl rfl rfl rfl (Nat.zero_le _) ⟨Nat.zero_le _, Nat.zero_le _, Nat.le_refl _⟩
    (fun c => Vector.getElem_replicate c.isLt) ⟨rfl, rfl⟩ rfl ⟨rfl, rfl⟩
    ⟨Nat.zero_le _, Nat.zero_le _, Nat.zero_le _, Nat.zero_le _, Nat.zero_le _, Nat.zero_le _⟩
    ⟨Nat.zero_le _, Nat.zero_le _, Nat.zero_le _⟩

theorem State.fullResetEnd_keepsBounds (baud : BitVec 2) (s : State) : s.KeepsBounds (s.fullResetEnd baud) := by
  refine .trans ?_ (State.tellRun_keepsBounds _ _ _ _)
  exact s.keepsBounds_of_defaults _ rfl rfl rfl rfl (Nat.zero_le _) ⟨Nat.zero_le _, Nat.zero_le _, Nat.le_refl _⟩
    (fun c => Vector.getElem_replicate c.isLt) ⟨rfl, rfl⟩ rfl ⟨rfl, rfl⟩
    ⟨Nat.zero_le _, Nat.zero_le _, Nat.zero_le _, Nat.zero_le _, Nat.zero_le _, Nat.zero_le _⟩
    ⟨Nat.zero_le _, Nat.zero_le _, Nat.zero_le _⟩

theorem State.timeLimit_keepsBounds (s : State) : s.KeepsBounds s.timeLimit := by
  unfold State.timeLimit
  split
  · exact s.enterFreezing_keepsBounds _ _ _
  · exact .refl s

theorem nextTick_le {t : Nat} (h : t ≤ 281474976710655) : nextTick t ≤ 281474976710655 := by
  unfold nextTick
  split
  · next below => exact below
  · exact h

theorem Link.tick_slotsFit {l : Link} (h : l.SlotsFit) : l.tick.SlotsFit := by
  unfold Link.tick
  split <;> exact h

theorem Link.tick_errorsFit {l : Link} (h : l.ErrorsFit) : l.tick.ErrorsFit := by
  unfold Link.tick
  split <;> exact h

theorem Report.tick_keepsBounds (r : Report) : r.KeepsBounds r.tick := by
  unfold Report.tick
  split
  · exact .refl r
  · exact ⟨fun q => ⟨q.notices, q.data, q.level⟩, id⟩

theorem State.advance_keepsBounds (s : State) : s.KeepsBounds s.advance :=
  { State.KeepsBounds.refl s with
    tick := nextTick_le
    slots := Link.tick_slotsFit
    errors := Link.tick_errorsFit
    queues := s.rep.tick_keepsBounds.queues
    lost := s.rep.tick_keepsBounds.lost
    channels := fun c h => by
      have : s.advance.ch c = { s.ch c with frameSeen := false } := by simp [State.ch, State.advance]
      rw [this]
      exact ⟨h.hits, h.faults, h.runs⟩ }

theorem State.tickStep_keepsBounds (s : State) : s.KeepsBounds s.tickStep := by
  have advanced : s.KeepsBounds s.closeSample.decidePatterns.advance :=
    (s.closeSample_keepsBounds.trans (.foldl State.patternOutcome_keepsBounds _ _)).trans (State.advance_keepsBounds _)
  unfold State.tickStep
  split
  · exact advanced.trans (State.feedPattern_keepsBounds _)
  · exact advanced

/-! ### The rules of the requests -/

/-- The rule of a request keeps every bound. -/
def RuleKeepsBounds (rule : List Byte → State → Answer) : Prop :=
  ∀ payload (s : State), s.KeepsBounds (rule payload s).1

theorem keepsBounds_of_noPayload {rule : List Byte → State → Answer} {act : State → Answer}
    (is : rule = noPayload act) (asked : ∀ s : State, s.KeepsBounds (act s).1) : RuleKeepsBounds rule := by
  intro payload s
  rw [is]
  match payload with
  | [] => exact asked s
  | _ :: _ => exact .refl s

theorem State.handle_keepsBounds {rule : List Byte → State → Answer} (keeps : RuleKeepsBounds rule)
    (isRow : Frame → Bool) (s : State) : s.KeepsBounds (State.handle isRow rule s) := by
  rcases State.handle_cases isRow rule s with ⟨-, e⟩ | ⟨f, -, e⟩
  · rw [e]; exact .refl s
  · rw [e]; exact (s.freeSlot_keepsBounds.trans (keeps _ _)).trans (State.answer_keepsBounds _ _ _ _)

theorem identifyRule_keepsBounds : RuleKeepsBounds identifyRule := keepsBounds_of_noPayload rfl .refl

theorem statusRule_keepsBounds : RuleKeepsBounds statusRule :=
  keepsBounds_of_noPayload rfl fun s =>
    { State.KeepsBounds.refl s with
      queues := fun q => ⟨q.notices, q.data, q.level⟩
      channels := fun c h => by
        have : s.clearFlags.ch c = { s.ch c with faultChanged := false } := by simp [State.ch, State.clearFlags]
        change (s.clearFlags.ch c).CountersBounded
        rw [this]
        exact ⟨h.hits, h.faults, h.runs⟩ }

theorem resetRunRule_keepsBounds : RuleKeepsBounds resetRunRule := keepsBounds_of_noPayload rfl State.resetRun_keepsBounds

theorem alarmClearRule_keepsBounds : RuleKeepsBounds alarmClearRule :=
  keepsBounds_of_noPayload rfl fun _ => State.keepsBounds_of_map ⟨id, id, rfl⟩

theorem mapClearRule_keepsBounds : RuleKeepsBounds mapClearRule :=
  keepsBounds_of_noPayload rfl fun s => by
    split
    · exact .refl s
    · exact State.keepsBounds_of_map s.map.clear_keepsBounds

theorem zoneReadRule_keepsBounds : RuleKeepsBounds zoneReadRule := keepsBounds_of_noPayload rfl .refl

theorem stopRule_keepsBounds : RuleKeepsBounds stopRule :=
  keepsBounds_of_noPayload rfl fun s => by
    split
    · exact s.enterFreezing_keepsBounds _ _ _
    · exact .refl s

theorem checkAbortRule_keepsBounds : RuleKeepsBounds checkAbortRule :=
  keepsBounds_of_noPayload rfl fun s => by split <;> exact .refl s

theorem channelSetRule_keepsBounds : RuleKeepsBounds channelSetRule := by
  intro payload s
  unfold channelSetRule
  split
  · split
    · unfold channelSetItems
      split
      · exact .refl s
      · split
        · exact .refl s
        · split
          · exact .refl s
          · split
            · exact .refl s
            · exact .foldl (State.setChannel_keepsBounds _) _ _
    · exact .refl s
  · exact .refl s

theorem channelGetRule_keepsBounds : RuleKeepsBounds channelGetRule := by
  intro payload s
  unfold channelGetRule
  (repeat' split) <;> exact .refl s

theorem pressureSetRule_keepsBounds : RuleKeepsBounds pressureSetRule := by
  intro payload s
  unfold pressureSetRule pressureStore
  (repeat' split) <;> exact { State.KeepsBounds.refl s with }

/-- The whole grid is a rectangle of the grid (R87). -/
theorem wholeGrid_fits {nc nr : Nat} (hc : 1 ≤ nc) (hr : 1 ≤ nr) : (wholeGrid nc nr).Fits nc nr :=
  ⟨hc, hr, ⟨hc, Nat.le_refl _⟩, hr, by simp [wholeGrid]⟩

/-- A geometry just loaded is legal if its dimensions are in their ranges (R87). -/
theorem Geometry.fresh_legal {circ len nc nr : Nat} (hcirc : 100 ≤ circ ∧ circ ≤ 65535)
    (hlen : 100 ≤ len ∧ len ≤ 65535) (hnc : 4 ≤ nc ∧ nc ≤ 64) (hnr : 1 ≤ nr ∧ nr ≤ 32) :
    (Geometry.fresh circ len nc nr).Legal where
  circ := hcirc
  len := hlen
  nc := hnc
  nr := hnr
  pos c p h := by
    have : (Geometry.fresh circ len nc nr).pos[c] = none := Vector.getElem_replicate c.isLt
    rw [this] at h
    cases h
  win c := by
    have : (Geometry.fresh circ len nc nr).win[c] = wholeGrid nc nr := Vector.getElem_replicate c.isLt
    rw [this]
    exact wholeGrid_fits (by omega) hnr.1
  zones n := by
    have : (Geometry.fresh circ len nc nr).zones[n] = ⟨false, wholeGrid nc nr⟩ := Vector.getElem_replicate n.isLt
    rw [this]
    exact wholeGrid_fits (by omega) hnr.1

theorem clampTo_inRange {lo hi : Nat} (h : lo ≤ hi) (v : Nat) : lo ≤ clampTo lo hi v ∧ clampTo lo hi v ≤ hi := by
  rw [clampTo_eq]; omega

theorem geometrySetRule_keepsBounds : RuleKeepsBounds geometrySetRule := by
  intro payload s
  unfold geometrySetRule geometryStore
  (repeat' split) <;> try exact .refl s
  next inRange =>
  simp only [Bool.or_eq_true, outside_iff, not_or, Nat.not_lt] at inRange
  obtain ⟨⟨⟨hcirc, hlen⟩, hnc⟩, hnr⟩ := inRange
  have cleared := s.map.clearTo_fits
  exact { State.KeepsBounds.refl s with
    cells := fun _ => (cleared _).1
    zones := fun _ => (cleared _).2.1
    grid := fun _ => ⟨(cleared _).2.2, fun g e => by cases e; exact Geometry.fresh_legal hcirc hlen hnc hnr,
      clampTo_inRange (by decide) _⟩ }

/-- A geometry changed within its grid keeps the bounds if it stays legal. -/
theorem State.setGeom_keepsBounds {s : State} {g h : Geometry} (loaded : s.loc.geom = some g) (nc : h.nc = g.nc)
    (nr : h.nr = g.nr) (legal : g.Legal → h.Legal) : s.KeepsBounds (s.setGeom h) :=
  { State.KeepsBounds.refl s with
    grid := fun k => by
      have cells : s.map.cells.length = g.nc * g.nr := by simpa only [loaded] using k.cells
      exact ⟨cells.trans (congrArg₂ (· * ·) nc.symm nr.symm), fun _ e => by cases e; exact legal (k.geom g loaded), k.v⟩ }

theorem Geometry.Legal.put {g : Geometry} (h : g.Legal) (c : Chan) (p : Option Pos)
    (on : ∀ q, p = some q → q.s < g.circ ∧ q.z ≤ g.len) : (g.put c p).Legal where
  circ := h.circ
  len := h.len
  nc := h.nc
  nr := h.nr
  pos d q e := by
    have : (g.put c p).pos[d] = if c.val = d.val then p else g.pos[d] :=
      Vector.getElem_set c.isLt d.isLt
    rw [this] at e
    split at e
    · exact on q e
    · exact h.pos d q e
  win := h.win
  zones := h.zones

theorem sensorPlaceRule_keepsBounds : RuleKeepsBounds sensorPlaceRule := by
  intro payload s
  unfold sensorPlaceRule sensorPlaceStore
  (repeat' split) <;> try exact .refl s
  next g loaded onShell =>
  simp only [not_or, Nat.not_le, Nat.not_lt] at onShell
  exact State.setGeom_keepsBounds loaded rfl rfl fun legal =>
    legal.put _ _ fun q e => by cases e; exact onShell.2

theorem sensorUnplaceRule_keepsBounds : RuleKeepsBounds sensorUnplaceRule := by
  intro payload s
  unfold sensorUnplaceRule sensorUnplaceStore
  (repeat' split) <;> try exact .refl s
  next g loaded =>
  exact State.setGeom_keepsBounds loaded rfl rfl fun legal => legal.put _ _ fun q e => by cases e

/-- A rectangle whose base lies in the grid fits it once its spans are clamped (R92, R94). -/
theorem fitRect_fits {nc nr col row : Nat} (hc : col < nc) (hr : row < nr) (colSpan rowSpan : Nat) :
    (fitRect nc nr col colSpan row rowSpan).Fits nc nr := by
  have cols := clampTo_inRange (lo := 1) (hi := nc) (by omega) colSpan
  have rows := clampTo_inRange (lo := 1) (hi := nr - row) (by omega) rowSpan
  exact ⟨hc, hr, cols, rows.1, by simp only [fitRect]; omega⟩

theorem windowSetRule_keepsBounds : RuleKeepsBounds windowSetRule := by
  intro payload s
  unfold windowSetRule windowStore
  (repeat' split) <;> try exact .refl s
  next inRange _ g loaded inGrid =>
  simp only [not_or, Nat.not_le] at inGrid
  refine State.setGeom_keepsBounds loaded rfl rfl fun legal => { legal with win := fun c => ?_ }
  have e (i : Nat) (h : i < 16) (r : Rect) : (g.win.set i r h)[c] = if i = c.val then r else g.win[c] :=
    Vector.getElem_set h c.isLt
  simp only [e]
  split
  · exact fitRect_fits inGrid.1 inGrid.2 _ _
  · exact legal.win c

theorem zoneSetRule_keepsBounds : RuleKeepsBounds zoneSetRule := by
  intro payload s
  unfold zoneSetRule zoneStore
  (repeat' split) <;> try exact .refl s
  next on g _ loaded inGrid =>
  simp only [not_or, Nat.not_le] at inGrid
  refine State.setGeom_keepsBounds loaded rfl rfl fun legal => { legal with zones := fun n => ?_ }
  have e (i : Nat) (h : i < 8) (r : Zone) : (g.zones.set i r h)[n] = if i = n.val then r else g.zones[n] :=
    Vector.getElem_set h n.isLt
  simp only [e]
  split
  · exact fitRect_fits inGrid.1 inGrid.2 _ _
  · exact legal.zones n

theorem associationSetRule_keepsBounds : RuleKeepsBounds associationSetRule := by
  intro payload s
  unfold associationSetRule associationStore
  (repeat' split) <;> exact { State.KeepsBounds.refl s with }

theorem clusterSetRule_keepsBounds : RuleKeepsBounds clusterSetRule := by
  intro payload s
  unfold clusterSetRule clusterStore
  (repeat' split) <;> exact { State.KeepsBounds.refl s with }

theorem ruptureSetRule_keepsBounds : RuleKeepsBounds ruptureSetRule := by
  intro payload s
  unfold ruptureSetRule ruptureStore
  (repeat' split) <;> exact { State.KeepsBounds.refl s with }

/-- The level is brought down to the ceiling (R184, R185). -/
theorem Report.configure_keepsBounds (r : Report) (ceiling : Detail) (high low trigger age period : Nat) :
    r.KeepsBounds (r.configure ceiling high low trigger age period) := by
  refine ⟨fun q => ⟨q.notices, q.data, ?_⟩, id⟩
  unfold Report.configure
  dsimp only
  split
  · exact Nat.le_refl _
  · next h => simpa [Detail.below] using h

theorem reportSetRule_keepsBounds : RuleKeepsBounds reportSetRule := by
  intro payload s
  unfold reportSetRule reportStore
  (repeat' split) <;> first | exact .refl s | exact State.keepsBounds_of_rep (Report.configure_keepsBounds ..)

theorem armRule_keepsBounds : RuleKeepsBounds armRule := by
  intro payload s
  unfold armRule
  (repeat' split) <;> first | exact .refl s | exact s.armFresh_keepsBounds

theorem armResumeRule_keepsBounds : RuleKeepsBounds armResumeRule := by
  intro payload s
  unfold armResumeRule
  (repeat' split) <;> first | exact .refl s | exact s.armResume_keepsBounds

theorem mapReadRule_keepsBounds : RuleKeepsBounds mapReadRule := by
  intro payload s
  unfold mapReadRule
  (repeat' split) <;> exact .refl s

theorem checkStartShortRule_keepsBounds : RuleKeepsBounds checkStartShortRule := by
  intro payload s
  unfold checkStartShortRule checkShort
  (repeat' split) <;> first | exact .refl s | exact s.beginCheck_keepsBounds _ _

theorem checkStartLongRule_keepsBounds : RuleKeepsBounds checkStartLongRule := by
  intro payload s
  unfold checkStartLongRule checkLong
  (repeat' split) <;> first | exact .refl s | exact s.beginCheck_keepsBounds _ _

theorem checkStartPatternRule_keepsBounds : RuleKeepsBounds checkStartPatternRule := by
  intro payload s
  unfold checkStartPatternRule checkPattern
  (repeat' split) <;> first | exact .refl s | exact s.beginCheck_keepsBounds _ _

theorem patternLoadRule_keepsBounds : RuleKeepsBounds patternLoadRule := by
  intro payload s
  unfold patternLoadRule patternStore
  (repeat' split) <;> exact s.keepsBounds_of_chk _

theorem baselineReadRule_keepsBounds : RuleKeepsBounds baselineReadRule := by
  intro payload s
  unfold baselineReadRule
  (repeat' split) <;> exact .refl s

theorem baselineLatestRule_keepsBounds : RuleKeepsBounds baselineLatestRule := fun _ => .refl

theorem unknownKindRule_keepsBounds : RuleKeepsBounds unknownKindRule := fun _ => .refl

theorem State.checkAbort_keepsBounds (s : State) : s.KeepsBounds s.checkAbort := by
  have handled := s.handle_keepsBounds checkAbortRule_keepsBounds (kindIs 0x16#8)
  unfold State.checkAbort
  split
  · exact .refl s
  · split
    · exact handled.trans (State.abortCheck_keepsBounds _ _)
    · exact handled

/-! ### Every command -/

/-- A step of the part completes; it keeps the bounds if its meaning does (R163). -/
theorem live_keepsBounds {f : State → State} {s : State} (h : s.KeepsBounds (f s)) :
    ∃ t, live f s = .next t ∧ s.KeepsBounds t := by
  refine ⟨_, rfl, ?_⟩
  split
  · exact .refl s
  · exact h

/-- Every command completes and keeps the bounds. -/
theorem exec_keepsBounds (i : Instr) (s : State) : ∃ t, exec i s = .next t ∧ s.KeepsBounds t := by
  have request {rule : List Byte → State → Answer} (keeps : RuleKeepsBounds rule) (isRow : Frame → Bool) :
      ∃ t, live (State.handle isRow rule) s = .next t ∧ s.KeepsBounds t :=
    live_keepsBounds (s.handle_keepsBounds keeps isRow)
  cases i with
  | tick => exact live_keepsBounds s.tickStep_keepsBounds
  | timeLimit => exact live_keepsBounds s.timeLimit_keepsBounds
  | pressurePeriod => exact live_keepsBounds s.pressurePeriod_keepsBounds
  | conversionComplete code => exact live_keepsBounds (s.conversionComplete_keepsBounds code)
  | laneSample c sample => exact live_keepsBounds (s.laneSample_keepsBounds c sample)
  | missingFrame c => exact live_keepsBounds (s.missingFrame_keepsBounds c)
  | peakFixed c => exact live_keepsBounds (s.peakFixed_keepsBounds c)
  | hitEnd c => exact live_keepsBounds (s.hitEnd_keepsBounds c)
  | forcedEnd c => exact live_keepsBounds (s.forcedEnd_keepsBounds c)
  | lockoutEnd c => exact live_keepsBounds (s.lockoutEnd_keepsBounds c)
  | laneLost c => exact live_keepsBounds (s.laneLost_keepsBounds c)
  | laneRecovered c => exact live_keepsBounds (s.laneRecovered_keepsBounds c)
  | settlingComplete c => exact live_keepsBounds (s.settlingComplete_keepsBounds c)
  | noiseBlockEnd c => exact live_keepsBounds (s.noiseBlockEnd_keepsBounds c)
  | handOver => exact live_keepsBounds s.handOver_keepsBounds
  | closeByHorizon => exact live_keepsBounds s.closeByHorizon_keepsBounds
  | locationStart => exact live_keepsBounds s.locationStart_keepsBounds
  | locationEnd => exact live_keepsBounds s.locationEnd_keepsBounds
  | drainComplete => exact live_keepsBounds s.drainComplete_keepsBounds
  | gatheringComplete => exact live_keepsBounds s.gatheringComplete_keepsBounds
  | pulse => exact live_keepsBounds s.pulse_keepsBounds
  | listeningWindowEnd => exact live_keepsBounds s.listeningWindowEnd_keepsBounds
  | checkComplete => exact live_keepsBounds s.checkComplete_keepsBounds
  | patternOutcome c => exact live_keepsBounds (f := fun s => s.patternOutcome c) (s.patternOutcome_keepsBounds c)
  | frameReceived bytes => exact live_keepsBounds (s.frameReceived_keepsBounds bytes)
  | framingError => exact live_keepsBounds s.framingError_keepsBounds
  | truncated => exact live_keepsBounds s.truncated_keepsBounds
  | lineBreak => exact live_keepsBounds s.lineBreak_keepsBounds
  | lineBreakEnd => exact live_keepsBounds s.lineBreakEnd_keepsBounds
  | hrdyAsserted level => exact ⟨_, rfl, s.hrdyChange_keepsBounds level⟩
  | frameSent => exact live_keepsBounds s.frameSent_keepsBounds
  | ageLimit => exact live_keepsBounds s.ageLimit_keepsBounds
  | summaryTimer => exact live_keepsBounds s.summaryTimer_keepsBounds
  | fullReset => exact ⟨_, rfl, s.fullReset_keepsBounds⟩
  | fullResetEnd baud =>
    refine ⟨_, rfl, ?_⟩
    split
    · exact s.fullResetEnd_keepsBounds baud
    · exact .refl s
  | checkAbort => exact live_keepsBounds s.checkAbort_keepsBounds
  | identify => exact request identifyRule_keepsBounds _
  | status => exact request statusRule_keepsBounds _
  | resetRun => exact request resetRunRule_keepsBounds _
  | channelSet => exact request channelSetRule_keepsBounds _
  | channelGet => exact request channelGetRule_keepsBounds _
  | pressureSet => exact request pressureSetRule_keepsBounds _
  | geometrySet => exact request geometrySetRule_keepsBounds _
  | sensorPlace => exact request sensorPlaceRule_keepsBounds _
  | sensorUnplace => exact request sensorUnplaceRule_keepsBounds _
  | windowSet => exact request windowSetRule_keepsBounds _
  | zoneSet => exact request zoneSetRule_keepsBounds _
  | associationSet => exact request associationSetRule_keepsBounds _
  | clusterSet => exact request clusterSetRule_keepsBounds _
  | ruptureSet => exact request ruptureSetRule_keepsBounds _
  | reportSet => exact request reportSetRule_keepsBounds _
  | arm => exact request armRule_keepsBounds _
  | armResume => exact request armResumeRule_keepsBounds _
  | stop => exact request stopRule_keepsBounds _
  | alarmClear => exact request alarmClearRule_keepsBounds _
  | mapClear => exact request mapClearRule_keepsBounds _
  | mapRead => exact request mapReadRule_keepsBounds _
  | zoneRead => exact request zoneReadRule_keepsBounds _
  | checkStartShort => exact request checkStartShortRule_keepsBounds _
  | checkStartLong => exact request checkStartLongRule_keepsBounds _
  | checkStartPattern => exact request checkStartPatternRule_keepsBounds _
  | patternLoad => exact request patternLoadRule_keepsBounds _
  | baselineRead => exact request baselineReadRule_keepsBounds _
  | baselineReadLatest => exact request baselineLatestRule_keepsBounds _
  | unknownKind => exact request unknownKindRule_keepsBounds _

end Sys2Proof.Machine

namespace Sys2Proof

open Machine

/-- Settles O1: both cases are the step's own. -/
theorem stepRunsTheFrontCommand : Obligations.StepRunsTheFrontCommand := by
  refine ⟨fun s c rest waiting => ?_, fun s empty => ?_⟩
  · simp only [step, waiting]
  · simp only [step, empty]

/-- Settles O57: a step is a command on the queue's rest, which no bound asks, and every command keeps every bound. -/
theorem stepsKeepTheBounds : Obligations.StepsKeepTheBounds := by
  intro s t stepped
  have kept : State.KeepsBounds { s with pending := t.pending } t := by
    unfold step at stepped
    split at stepped
    · cases stepped
      exact .refl s
    · next c rest _ =>
      obtain ⟨u, ran, keeps⟩ := exec_keepsBounds c { s with pending := rest }
      rw [ran] at stepped
      cases stepped
      rw [show t.pending = rest from keeps.pending]
      exact keeps
  refine ⟨fun b => ?_, fun b => ?_, fun b => ?_⟩
  · exact .of_keeps kept ⟨b.tick, b.hitList, b.locQueue, b.slots, b.notices, b.data, b.level⟩
  · exact .of_keeps kept ⟨b.channels, b.pressure, b.cells, b.zones, b.arming, b.errors, b.lost⟩
  · exact .of_keeps kept ⟨b.cells, b.geom, b.v⟩

/-- Settles O2: every command completes and keeps the queue, by the same case per command as the bounds; in a held
reset a command of the part's own is not taken, and HRDY stands outside of it. -/
theorem everyCommandCompletes : Obligations.EveryCommandCompletes := by
  refine ⟨fun c s => ?_, fun c s held noReset noEnd => ?_⟩
  · obtain ⟨t, ran, keeps⟩ := exec_keepsBounds c s
    exact ⟨t, ran, keeps.pending⟩
  · cases c with
    | fullReset => exact absurd rfl noReset
    | fullResetEnd baud => exact absurd rfl (noEnd baud)
    | hrdyAsserted level =>
      refine ⟨fun l e => ?_, fun no => absurd rfl (no level)⟩
      cases e
      have pinAlone : s.hrdyChange level = s.setHrdy level := by simp [State.hrdyChange, held]
      exact congrArg Host.Outcome.next pinAlone
    | patternOutcome c =>
      exact ⟨fun l e => (nomatch e), fun _ => live_of_reset (fun s => s.patternOutcome c) held⟩
    | _ => exact ⟨fun l e => (nomatch e), fun _ => live_of_reset _ held⟩

end Sys2Proof
end

section
/-! PROOFS. What keeps the channels, the open event and the hit list lawful (R19, R44, R50, R52, R53, R65, R139, R156):
the horizon said without folds, the relation between the state before and after that every operation stands in, and the
operations that leave all of it alone. -/

namespace Sys2Proof.Machine

/-! ### The horizon (R50, R55) -/

/-- The arrival a is held: a hit in progress or an offer that waits has it (R50, log 34). -/
def State.Holds (s : State) (a : Nat) : Prop :=
  (∃ c h, (s.ch c).state = .hit h ∧ h.arrival = a) ∨ ∃ r ∈ s.offers, r.arrival = a

/-- The horizon is bounded (R50, R55). -/
def State.HasHorizon (s : State) : Prop := s.ctl.run = .armed ∨ (s.ctl.run = .freezing ∧ ∃ a, s.Holds a)

/-- The arrival a lies before the horizon, if there is one (R50, R52). -/
def State.Past (s : State) (a : Nat) : Prop := s.HasHorizon → a < s.tick ∧ ∀ b, s.Holds b → a < b

theorem State.bounded_iff (s : State) : s.bounded = true ↔ s.HasHorizon := by
  have held : (s.anyHit || !s.offers.isEmpty) = true ↔ ∃ a, s.Holds a := by
    rw [Bool.or_eq_true, State.anyHit_iff]
    constructor
    · rintro (⟨c, h, e⟩ | waits)
      · exact ⟨_, .inl ⟨c, h, e, rfl⟩⟩
      · obtain ⟨r, hr⟩ := List.exists_mem_of_ne_nil s.offers (by simpa using waits)
        exact ⟨_, .inr ⟨r, hr, rfl⟩⟩
    · rintro ⟨a, ⟨c, h, e, -⟩ | ⟨r, hr, -⟩⟩
      · exact .inl ⟨c, h, e⟩
      · exact .inr (by simpa using List.ne_nil_of_mem hr)
  unfold State.bounded State.HasHorizon
  cases s.ctl.run <;> simp [held]

theorem lt_foldl_min {α : Type} (f : α → Nat) (l : List α) (m a : Nat) :
    a < l.foldl (fun m x => min m (f x)) m ↔ a < m ∧ ∀ x ∈ l, a < f x := by
  induction l generalizing m with
  | nil => simp
  | cons x l ih => rw [List.foldl_cons, ih, Nat.lt_min, and_assoc, List.forall_mem_cons]

/-- Before the least arrival of the hits in progress, from the tick (R50). -/
theorem State.lt_heldBack (s : State) (a : Nat) :
    a < s.heldBack ↔ a < s.tick ∧ ∀ c h, (s.ch c).state = .hit h → a < h.arrival := by
  have least (l : List Chan) (m : Nat) :
      a < l.foldl (fun m c => match (s.ch c).holdsAt with
        | none => m
        | some a => min m a) m ↔ a < m ∧ ∀ c ∈ l, ∀ h, (s.ch c).state = .hit h → a < h.arrival := by
    induction l generalizing m with
    | nil => simp
    | cons c l ih =>
      rw [List.foldl_cons, ih, List.forall_mem_cons]
      cases e : (s.ch c).state with
      | hit h => simp [Channel.holdsAt, e, and_assoc]
      | _ => simp [Channel.holdsAt, e]
  exact (least allChans s.tick).trans (by simp [mem_allChans])

/-- An arrival is before the horizon, if there is one, where it lies before the tick and before all that is held. -/
theorem State.past_iff (s : State) (a : Nat) : (∀ h, s.horizon = some h → a < h) ↔ s.Past a := by
  have held : (∀ b, s.Holds b → a < b) ↔
      (∀ c h, (s.ch c).state = .hit h → a < h.arrival) ∧ ∀ r ∈ s.offers, a < r.arrival := by
    constructor
    · exact fun below => ⟨fun c h e => below _ (.inl ⟨c, h, e, rfl⟩), fun r hr => below _ (.inr ⟨r, hr, rfl⟩)⟩
    · rintro ⟨hits, waiting⟩ b (⟨c, h, e, rfl⟩ | ⟨r, hr, rfl⟩)
      · exact hits c h e
      · exact waiting r hr
  unfold State.horizon State.Past
  rw [← s.bounded_iff]
  by_cases b : s.bounded = true
  · simp only [b, if_true, Option.some.injEq, forall_eq', true_imp_iff]
    rw [lt_foldl_min, s.lt_heldBack, held, and_assoc]
  · simp [b]

/-- The horizon never falls: where it is bounded after, it was before, and nothing is held that was not, but from the
tick on. -/
theorem State.Past.mono {s t : State} {a : Nat} (p : s.Past a) (bounded : t.HasHorizon → s.HasHorizon)
    (tick : s.tick ≤ t.tick) (held : ∀ b, t.Holds b → s.Holds b ∨ s.tick ≤ b) : t.Past a := by
  intro b
  obtain ⟨beforeTick, beforeHeld⟩ := p (bounded b)
  refine ⟨beforeTick.trans_le tick, fun b hb => ?_⟩
  rcases held b hb with k | k
  · exact beforeHeld b k
  · exact beforeTick.trans_le k

/-! ### One channel -/

/-- A channel fits the run state and the claim of a check on it. -/
structure Channel.Legal (run : RunState) (claimed : Bool) (x : Channel) : Prop where
  off : x.state = .off ↔ x.cfg.enable = false
  fault : x.state = .fault ↔ x.cfg.enable = true ∧ x.lane = .lost
  lockout : ∀ k, x.state = .lockout k → run = .armed
  hit : ∀ h, x.state = .hit h → run = .armed ∨ run = .freezing
  testing : x.state = .testing → claimed = true

/-- The part of the channels' law that no single channel asks. -/
structure State.RunLegal (s : State) : Prop where
  offers : s.offers ≠ [] → s.ctl.run = .armed ∨ s.ctl.run = .freezing
  freeze : s.ctl.freeze.isSome = true ↔ s.ctl.run = .freezing ∨ s.ctl.run = .frozen
  check : s.ctl.run = .freezing → s.chk.check = none
  began : ∀ ck, s.chk.check = some ck → ck.startRun = s.ctl.run

theorem State.channelsLegal_iff (s : State) :
    s.ChannelsLegal ↔ (∀ c, (s.ch c).Legal s.ctl.run (s.claimed c)) ∧ s.RunLegal := by
  constructor
  · intro l
    exact ⟨fun c => ⟨l.off c, l.fault c, l.lockout c, l.hit c, l.testing c⟩, l.offers, l.freeze, l.check, l.began⟩
  · rintro ⟨each, rest⟩
    exact ⟨fun c => (each c).off, fun c => (each c).fault, fun c => (each c).lockout, fun c => (each c).hit,
      rest.offers, fun c => (each c).testing, rest.freeze, rest.check, rest.began⟩

theorem State.ChannelsLegal.each {s : State} (l : s.ChannelsLegal) (c : Chan) :
    (s.ch c).Legal s.ctl.run (s.claimed c) := (s.channelsLegal_iff.mp l).1 c

theorem State.ChannelsLegal.rest {s : State} (l : s.ChannelsLegal) : s.RunLegal := (s.channelsLegal_iff.mp l).2

/-- A channel neither OFF nor in FAULT is enabled with its lane GOOD. -/
theorem Channel.Legal.working {run : RunState} {claimed : Bool} {x : Channel} (l : x.Legal run claimed)
    (on : x.state ≠ .off) (sound : x.state ≠ .fault) : x.cfg.enable = true ∧ x.lane = .good := by
  have enabled : x.cfg.enable = true := by
    cases e : x.cfg.enable with
    | true => rfl
    | false => exact absurd (l.off.mpr e) on
  refine ⟨enabled, ?_⟩
  cases e : x.lane with
  | good => rfl
  | lost => exact absurd (l.fault.mpr ⟨enabled, e⟩) sound

/-- A working channel is legal in any state that fits the run state and the claim. -/
theorem Channel.legal_of_working {run : RunState} {claimed : Bool} {x : Channel}
    (working : x.cfg.enable = true ∧ x.lane = .good) (on : x.state ≠ .off) (sound : x.state ≠ .fault)
    (lockout : ∀ k, x.state = .lockout k → run = .armed)
    (hit : ∀ h, x.state = .hit h → run = .armed ∨ run = .freezing) (testing : x.state = .testing → claimed = true) :
    x.Legal run claimed where
  off := by simp [on, working]
  fault := by simp [sound, working]
  lockout := lockout
  hit := hit
  testing := testing

/-- A working channel in QUIET, or in TESTING under a claim, is legal in every run state. -/
theorem Channel.legal_of_idle {run : RunState} {claimed : Bool} {x : Channel}
    (working : x.cfg.enable = true ∧ x.lane = .good)
    (idle : x.state = .quiet ∨ x.state = .settling ∨ (x.state = .testing ∧ claimed = true)) : x.Legal run claimed := by
  rcases idle with e | e | ⟨e, claim⟩
  · apply Channel.legal_of_working working <;> simp [e]
  · apply Channel.legal_of_working working <;> simp [e]
  · apply Channel.legal_of_working working <;> simp [e, claim]

/-- y stands as x does in all that the law asks: a hit in progress keeps its arrival. -/
structure Channel.Alike (x y : Channel) : Prop where
  enable : y.cfg.enable = x.cfg.enable
  lane : y.lane = x.lane
  state : y.state = x.state ∨ ∃ h k, x.state = .hit h ∧ y.state = .hit k ∧ k.arrival = h.arrival

theorem Channel.Alike.refl (x : Channel) : x.Alike x := ⟨rfl, rfl, .inl rfl⟩

theorem Channel.Alike.trans {x y z : Channel} (a : x.Alike y) (b : y.Alike z) : x.Alike z := by
  refine ⟨b.enable.trans a.enable, b.lane.trans a.lane, ?_⟩
  rcases b.state with e | ⟨h, k, ey, ez, same⟩
  · rw [e]; exact a.state
  · rcases a.state with e' | ⟨h', k', ex', ey', same'⟩
    · exact .inr ⟨h, k, e' ▸ ey, ez, same⟩
    · rw [ey] at ey'
      cases ey'
      exact .inr ⟨h', k, ex', ez, same.trans same'⟩

theorem Channel.Alike.legal {x y : Channel} (a : x.Alike y) {run : RunState} {claimed : Bool}
    (l : x.Legal run claimed) : y.Legal run claimed := by
  rcases a.state with e | ⟨h, k, ex, ey, -⟩
  · exact ⟨by rw [e, a.enable]; exact l.off, by rw [e, a.enable, a.lane]; exact l.fault, by rw [e]; exact l.lockout,
      by rw [e]; exact l.hit, by rw [e]; exact l.testing⟩
  · have working := l.working (by simp [ex]) (by simp [ex])
    exact Channel.legal_of_working (by rw [a.enable, a.lane]; exact working) (by simp [ey]) (by simp [ey])
      (by simp [ey]) (fun _ _ => l.hit h ex) (by simp [ey])

theorem Channel.Alike.hit {x y : Channel} (a : x.Alike y) {k : Hit} (e : y.state = .hit k) :
    ∃ h, x.state = .hit h ∧ h.arrival = k.arrival := by
  rcases a.state with e' | ⟨h, k', ex, ey, same⟩
  · exact ⟨k, e' ▸ e, rfl⟩
  · rw [e] at ey
    cases ey
    exact ⟨h, ex, same.symm⟩

/-! ### Operations that leave the channels' law alone -/

/-- What the law asks of a check in progress: its claims, and the run state in which it began. -/
def Check.law (ck : Check) : Vector Bool 16 × Vector Bool 16 × RunState := (ck.involved, ck.removed, ck.startRun)

/-- From s to t the channels stand alike, with the run state, the offers that wait and the check's claims. -/
structure State.SameChannels (s t : State) : Prop where
  chans : ∀ c, (s.ch c).Alike (t.ch c)
  tick : s.tick ≤ t.tick
  offers : t.offers = s.offers
  run : t.ctl.run = s.ctl.run
  freeze : t.ctl.freeze = s.ctl.freeze
  check : t.chk.check.map Check.law = s.chk.check.map Check.law

theorem State.SameChannels.refl (s : State) : s.SameChannels s where
  chans _ := .refl _
  tick := Nat.le_refl _
  offers := rfl
  run := rfl
  freeze := rfl
  check := rfl

theorem State.SameChannels.trans {s t u : State} (h : s.SameChannels t) (k : t.SameChannels u) : s.SameChannels u where
  chans c := (h.chans c).trans (k.chans c)
  tick := h.tick.trans k.tick
  offers := k.offers.trans h.offers
  run := k.run.trans h.run
  freeze := k.freeze.trans h.freeze
  check := k.check.trans h.check

theorem State.claimed_of_law {s t : State} (h : t.chk.check.map Check.law = s.chk.check.map Check.law) (c : Chan) :
    t.claimed c = s.claimed c := by
  unfold State.claimed
  cases e : s.chk.check with
  | none => cases e' : t.chk.check with
    | none => rfl
    | some _ => simp [e, e'] at h
  | some ck => cases e' : t.chk.check with
    | none => simp [e, e'] at h
    | some ck' =>
      simp only [e, e', Option.map_some, Option.some.injEq, Check.law, Prod.mk.injEq] at h
      simp only [Check.owns, h.1, h.2.1]

theorem State.SameChannels.legal {s t : State} (h : s.SameChannels t) (l : s.ChannelsLegal) : t.ChannelsLegal := by
  rw [State.channelsLegal_iff]
  refine ⟨fun c => ?_, ?_, ?_, fun f => ?_, fun ck e => ?_⟩
  · rw [h.run, State.claimed_of_law h.check]
    exact (h.chans c).legal (l.each c)
  · rw [h.offers, h.run]; exact l.offers
  · rw [h.freeze, h.run]; exact l.freeze
  · have := l.check (h.run ▸ f)
    have same := h.check
    rw [this] at same
    simpa using same
  · have same := h.check
    rw [e] at same
    cases e' : s.chk.check with
    | none => simp [e'] at same
    | some ck' =>
      simp only [e', Option.map_some, Option.some.injEq, Check.law, Prod.mk.injEq] at same
      rw [same.2.2, h.run]
      exact l.began ck' e'

theorem State.SameChannels.holds {s t : State} (h : s.SameChannels t) {a : Nat} (held : t.Holds a) : s.Holds a := by
  rcases held with ⟨c, k, e, rfl⟩ | ⟨r, hr, rfl⟩
  · obtain ⟨h', e', same⟩ := (h.chans c).hit e
    exact .inl ⟨c, h', e', same⟩
  · exact .inr ⟨r, h.offers ▸ hr, rfl⟩

theorem State.SameChannels.past {s t : State} (h : s.SameChannels t) {a : Nat} (p : s.Past a) : t.Past a := by
  refine p.mono (fun b => ?_) h.tick fun _ hb => .inl (h.holds hb)
  unfold State.HasHorizon at *
  rw [h.run] at b
  exact b.imp_right fun ⟨f, a, ha⟩ => ⟨f, a, h.holds ha⟩

/-! ### The relation -/

/-- From s to t the channels, the open event and the hit list stay lawful. -/
structure State.KeepsLaw (s t : State) : Prop where
  channels : s.ChannelsLegal → t.ChannelsLegal
  events : s.ChannelsLegal → s.EventsLegal → t.EventsLegal
  list : s.ChannelsLegal → s.ListLegal → t.ListLegal

theorem State.KeepsLaw.refl (s : State) : s.KeepsLaw s := ⟨id, fun _ => id, fun _ => id⟩

theorem State.KeepsLaw.trans {s t u : State} (h : s.KeepsLaw t) (k : t.KeepsLaw u) : s.KeepsLaw u where
  channels := k.channels ∘ h.channels
  events l e := k.events (h.channels l) (h.events l e)
  list l e := k.list (h.channels l) (h.list l e)

theorem State.KeepsLaw.foldl {β : Type} {f : State → β → State} (h : ∀ (s : State) b, s.KeepsLaw (f s b)) (l : List β)
    (s : State) : s.KeepsLaw (l.foldl f s) :=
  foldl_holds (State.KeepsLaw s) f (fun t b k => k.trans (h t b)) l s (.refl s)

/-- What is lawful need only be kept where the channels are lawful. -/
theorem State.keepsLaw_of {s t : State} (h : s.ChannelsLegal → s.KeepsLaw t) : s.KeepsLaw t :=
  ⟨fun l => (h l).channels l, fun l => (h l).events l, fun l => (h l).list l⟩

/-- From s to t the open event, the queue and the list stand as they were. -/
structure State.SameEvents (s t : State) : Prop where
  hitList : t.hitList = s.hitList
  openEvent : t.assoc.openEvent = s.assoc.openEvent
  eventNo : t.assoc.eventNo = s.assoc.eventNo
  queue : t.loc.queue = s.loc.queue
  busy : s.loc.busy = none → t.loc.busy = none

theorem State.SameEvents.refl (s : State) : s.SameEvents s := ⟨rfl, rfl, rfl, rfl, id⟩

theorem State.SameEvents.taken {s t : State} (h : s.SameEvents t) : t.taken = s.taken := by
  unfold State.taken
  rw [h.hitList]

/-- A law of events that stands is kept by what changes none of it, where IDLE or FROZEN is not newly entered. -/
theorem State.SameEvents.legal {s t : State} (h : s.SameEvents t)
    (run : t.ctl.run = .idle ∨ t.ctl.run = .frozen → s.ctl.run = .idle ∨ s.ctl.run = .frozen) (e : s.EventsLegal) :
    t.EventsLegal where
  closed := by rw [h.openEvent, h.taken]; exact e.closed
  members := by rw [h.taken]; exact e.members
  channels := by rw [h.taken]; exact e.channels
  window := by rw [h.openEvent, h.taken]; exact e.window
  number := by rw [h.eventNo]; exact e.number
  still r := by
    obtain ⟨empty, closed, queue, busy⟩ := e.still (run r)
    exact ⟨h.hitList.trans empty, h.openEvent.trans closed, h.queue.trans queue, h.busy busy⟩

/-- A lawful list stays lawful while the horizon does not fall. -/
theorem State.ListLegal.of_past {s t : State} (l : s.ListLegal) (same : t.hitList = s.hitList)
    (past : ∀ a, s.Past a → t.Past a) : t.ListLegal where
  order := by rw [same]; exact l.order
  front := by rw [same]; exact l.front
  settled e he taken := by
    rw [State.past_iff]
    exact past _ ((s.past_iff _).mp (l.settled e (same ▸ he) taken))

/-- From s to t all that the law asks stands alike. -/
structure State.SameLaw (s t : State) : Prop extends State.SameChannels s t, State.SameEvents s t

theorem State.SameLaw.refl (s : State) : s.SameLaw s :=
  { State.SameChannels.refl s, State.SameEvents.refl s with }

theorem State.SameLaw.trans {s t u : State} (h : s.SameLaw t) (k : t.SameLaw u) : s.SameLaw u :=
  { h.toSameChannels.trans k.toSameChannels with
    hitList := k.hitList.trans h.hitList
    openEvent := k.openEvent.trans h.openEvent
    eventNo := k.eventNo.trans h.eventNo
    queue := k.queue.trans h.queue
    busy := k.busy ∘ h.busy }

theorem State.SameLaw.keeps {s t : State} (h : s.SameLaw t) : s.KeepsLaw t where
  channels := h.toSameChannels.legal
  events _ := h.toSameEvents.legal fun r => by rwa [h.run] at r
  list _ l := l.of_past h.hitList fun _ => h.toSameChannels.past

theorem State.SameLaw.foldl {β : Type} {f : State → β → State} (h : ∀ (s : State) b, s.SameLaw (f s b)) (l : List β)
    (s : State) : s.SameLaw (l.foldl f s) :=
  foldl_holds (State.SameLaw s) f (fun t b k => k.trans (h t b)) l s (.refl s)

/-! ### Operations that leave all of the law alone -/

theorem State.notify_sameLaw (s : State) (n : Notice) : s.SameLaw (s.notify n) := { State.SameLaw.refl s with }

theorem State.report_sameLaw (s : State) (r : DataRec) : s.SameLaw (s.report r) := { State.SameLaw.refl s with }

theorem State.choose_sameLaw (s : State) : s.SameLaw s.choose := { State.SameLaw.refl s with }

theorem State.answer_sameLaw (s : State) (f : Frame) (r : Result) (data : List Byte) :
    s.SameLaw (s.answer f r data) := { State.SameLaw.refl s with }

theorem State.freeSlot_sameLaw (s : State) : s.SameLaw s.freeSlot := { State.SameLaw.refl s with }

theorem State.sameLaw_of_rep (s : State) (r : Report) : s.SameLaw { s with rep := r } := { State.SameLaw.refl s with }

theorem State.sameLaw_of_press (s : State) (p : Pressure) : s.SameLaw { s with press := p } :=
  { State.SameLaw.refl s with }

theorem State.sameLaw_of_link (s : State) (l : Link) : s.SameLaw { s with link := l } := { State.SameLaw.refl s with }

theorem State.sameLaw_of_map (s : State) (m : ActMap) : s.SameLaw { s with map := m } := { State.SameLaw.refl s with }

/-- The check unit may change in all but the claims of the check in progress. -/
theorem State.sameLaw_of_chk {s : State} {k : CheckUnit} (h : k.check.map Check.law = s.chk.check.map Check.law) :
    s.SameLaw { s with chk := k } := { State.SameLaw.refl s with check := h }

theorem State.sameLaw_of_chans {s : State} {v : Vector Channel 16} (h : ∀ c : Chan, (s.ch c).Alike v[c]) :
    s.SameLaw { s with chans := v } := { State.SameLaw.refl s with chans := h }

theorem State.setCh_sameLaw {s : State} {c : Chan} {x : Channel} (h : (s.ch c).Alike x) : s.SameLaw (s.setCh c x) :=
  State.sameLaw_of_chans fun d => by
    change (s.ch d).Alike ((s.setCh c x).ch d)
    by_cases e : d = c
    · subst e; rw [State.setCh_ch_same]; exact h
    · rw [State.setCh_ch_other _ _ e]; exact .refl _

theorem State.modCh_sameLaw (s : State) (c : Chan) (f : Channel → Channel) (h : ∀ x : Channel, x.Alike (f x)) :
    s.SameLaw (s.modCh c f) := State.setCh_sameLaw (h _)

theorem State.mapCh_sameLaw (s : State) (f : Chan → Channel → Channel) (h : ∀ c (x : Channel), x.Alike (f c x)) :
    s.SameLaw (s.mapCh f) :=
  State.sameLaw_of_chans fun c => by
    change (s.ch c).Alike ((s.mapCh f).ch c)
    rw [State.mapCh_ch]
    exact h c _

theorem State.countOnset_sameLaw (s : State) (c : Chan) (arrival : Nat) (st : Stamp) :
    s.SameLaw (s.countOnset c arrival st) := by
  unfold State.countOnset
  split
  · split
    · split
      · exact s.sameLaw_of_press _
      · exact (s.sameLaw_of_press _).trans (State.notify_sameLaw _ _)
    · exact s.sameLaw_of_press _
  · exact .refl s

theorem State.endSpan_sameLaw (s : State) (ck : Check) : s.SameLaw (s.endSpan ck) := by
  unfold State.endSpan
  split
  · exact { State.SameLaw.refl s with }
  · exact .refl s

theorem State.recordClip_sameLaw (s : State) (c : Chan) : s.SameLaw (s.recordClip c) := { State.SameLaw.refl s with }

theorem State.noiseBlockEnd_sameLaw (c : Chan) (s : State) : s.SameLaw (s.noiseBlockEnd c) := by
  unfold State.noiseBlockEnd
  split
  · refine s.modCh_sameLaw c _ fun x => ?_
    unfold Channel.endBlock
    dsimp only
    split <;> exact ⟨rfl, rfl, .inl rfl⟩
  · exact .refl s

theorem State.peakFixed_sameLaw (c : Chan) (s : State) : s.SameLaw (s.peakFixed c) := by
  unfold State.peakFixed
  split
  · next h e => exact State.setCh_sameLaw ⟨rfl, rfl, .inr ⟨h, _, e, rfl, rfl⟩⟩
  · exact .refl s

theorem State.allSeen_sameLaw (s : State) : s.SameLaw s.allSeen :=
  s.mapCh_sameLaw _ fun _ _ => ⟨rfl, rfl, .inl rfl⟩

@[simp] theorem Channel.noiseFrame_cfg (x : Channel) (mag : Option Nat) : (x.noiseFrame mag).cfg = x.cfg := by
  unfold Channel.noiseFrame
  split <;> rfl

@[simp] theorem Channel.noiseFrame_lane (x : Channel) (mag : Option Nat) : (x.noiseFrame mag).lane = x.lane := by
  unfold Channel.noiseFrame
  split <;> rfl

@[simp] theorem Channel.noiseFrame_state (x : Channel) (mag : Option Nat) : (x.noiseFrame mag).state = x.state := by
  unfold Channel.noiseFrame
  split <;> simp [*]

theorem State.sampleTesting_sameLaw (c : Chan) (mag : Nat) (count : Bool) (s : State) :
    s.SameLaw (s.sampleTesting c mag count) := by
  unfold State.sampleTesting
  split
  · exact .refl s
  · next ck moving =>
    have present : s.chk.check = some ck := by
      unfold State.movingCheck at moving
      split at moving
      · cases moving
      · exact moving
    split
    · exact .refl s
    · split
      · exact State.sameLaw_of_chk (by simp [present, Check.law])
      · exact .refl s

/-- A check that can advance is the one in progress (R2). -/
theorem State.check_of_moving {s : State} {ck : Check} (moving : s.movingCheck = some ck) :
    s.chk.check = some ck := by
  unfold State.movingCheck at moving
  split at moving
  · cases moving
  · exact moving

theorem State.gatheringComplete_sameLaw (s : State) : s.SameLaw s.gatheringComplete := by
  unfold State.gatheringComplete
  split
  · exact .refl s
  · next ck moving =>
    split
    · exact State.sameLaw_of_chk (by simp [State.check_of_moving moving, Check.law])
    · exact .refl s

theorem State.pulse_sameLaw (s : State) : s.SameLaw s.pulse := by
  unfold State.pulse
  split
  · exact .refl s
  · next ck moving =>
    split
    · exact .refl s
    · split
      · exact State.sameLaw_of_chk (by simp [State.check_of_moving moving, Check.law, Check.drive])
      · exact .refl s

theorem State.listeningWindowEnd_sameLaw (s : State) : s.SameLaw s.listeningWindowEnd := by
  unfold State.listeningWindowEnd
  split
  · exact .refl s
  · next ck moving =>
    split
    · exact .refl s
    · split
      · exact State.sameLaw_of_chk (by simp [State.check_of_moving moving, Check.law])
      · exact .refl s

theorem State.feedPattern_sameLaw (s : State) : s.SameLaw s.feedPattern := by
  unfold State.feedPattern
  split
  · exact .refl s
  · next ck moving =>
    split
    · exact State.sameLaw_of_chk (by simp [State.check_of_moving moving, Check.law])
    · exact .refl s

theorem State.patternOutcome_sameLaw (s : State) (c : Chan) : s.SameLaw (s.patternOutcome c) := by
  unfold State.patternOutcome
  split
  · exact .refl s
  · next ck moving =>
    split
    · split
      · exact .refl s
      · exact State.sameLaw_of_chk (by simp [State.check_of_moving moving, Check.law])
    · exact .refl s

theorem State.changeVerdict_sameLaw (s0 : State) (ck : Check) (s : State) (c : Chan) :
    s.SameLaw (State.changeVerdict s0 ck s c) := by
  unfold State.changeVerdict
  split
  · exact .refl s
  · refine (s.modCh_sameLaw c _ fun x => ?_).trans (State.notify_sameLaw _ _)
    exact ⟨rfl, rfl, .inl rfl⟩

theorem State.keepResult_sameLaw (s0 : State) (ck : Check) (s : State) : s.SameLaw (State.keepResult s0 ck s) := by
  have kept : s.SameLaw (State.keepPairs s0 ck s) := { State.SameLaw.refl s with }
  unfold State.keepResult
  split
  · exact .refl s
  · exact kept.trans (.foldl (State.changeVerdict_sameLaw s0 ck) _ _)

theorem State.accumulate_sameLaw (s : State) (nc nr : Nat) (e : EventRec) (p : LocPart) :
    s.SameLaw (s.accumulate nc nr e p) := by
  unfold State.accumulate
  dsimp only
  split
  · exact s.sameLaw_of_map _
  · exact (s.sameLaw_of_map _).trans (State.notify_sameLaw _ _)

theorem State.moveTo_sameLaw (s : State) (t : Nat) : s.SameLaw (s.moveTo t) := { State.SameLaw.refl s with }

theorem State.lone_sameLaw (s : State) (r : HitRec) (why : LoneReason) : s.SameLaw (s.lone r why) := by
  refine (s.modCh_sameLaw r.channel _ fun x => ?_).trans (State.report_sameLaw _ _)
  exact ⟨rfl, rfl, .inl rfl⟩

theorem State.linkError_sameLaw (s : State) (e : RxError) : s.SameLaw (s.linkError e) :=
  (s.sameLaw_of_link _).trans (State.notify_sameLaw _ _)

theorem State.frameByte_sameLaw (s : State) (got : List Byte) : s.SameLaw (s.frameByte got) := by
  unfold State.frameByte
  split
  · exact s.sameLaw_of_link _
  · split
    · exact s.linkError_sameLaw _
    · split
      · exact s.sameLaw_of_link _
      · split
        · exact s.sameLaw_of_link _
        · exact s.linkError_sameLaw _

theorem State.rxByte_sameLaw (s : State) (b : Byte) : s.SameLaw (s.rxByte b) := by
  unfold State.rxByte
  split
  · split
    · exact s.sameLaw_of_link _
    · exact .refl s
  · split
    · exact s.sameLaw_of_link _
    · split
      · exact .refl s
      · exact s.sameLaw_of_link _
  · split
    · exact (s.sameLaw_of_link _).trans (State.linkError_sameLaw _ _)
    · exact s.frameByte_sameLaw _
  · exact .refl s
  · exact .refl s

theorem State.truncated_sameLaw (s : State) : s.SameLaw s.truncated := by
  unfold State.truncated
  split
  · split
    · exact s.linkError_sameLaw _
    · exact .refl s
  · exact .refl s

theorem State.frameReceived_sameLaw (bytes : List Byte) (s : State) : s.SameLaw (s.frameReceived bytes) :=
  s.truncated_sameLaw.trans (.foldl State.rxByte_sameLaw _ _)

theorem State.framingError_sameLaw (s : State) : s.SameLaw s.framingError := by
  unfold State.framingError
  split
  · exact s.truncated_sameLaw.trans (State.linkError_sameLaw _ _)
  · exact .refl s

theorem State.lineBreak_sameLaw (s : State) : s.SameLaw s.lineBreak := by
  unfold State.lineBreak
  split
  · exact s.truncated_sameLaw.trans ((State.sameLaw_of_link _ _).trans (State.notify_sameLaw _ _))
  · exact .refl s

theorem State.lineBreakEnd_sameLaw (s : State) : s.SameLaw s.lineBreakEnd := by
  unfold State.lineBreakEnd
  split
  · exact s.sameLaw_of_link _
  · exact .refl s

theorem State.pressurePeriod_sameLaw (s : State) : s.SameLaw s.pressurePeriod := by
  unfold State.pressurePeriod
  split
  · exact s.sameLaw_of_press _
  · exact .refl s

theorem State.takeFlag_sameLaw (s : State) (code : Code) : s.SameLaw (s.takeFlag code) := by
  unfold State.takeFlag
  split
  · exact .refl s
  · exact (s.sameLaw_of_press _).trans (State.notify_sameLaw _ _)

theorem State.frameSent_sameLaw (s : State) : s.SameLaw s.frameSent := by
  unfold State.frameSent
  split
  · exact (s.sameLaw_of_rep _).trans (State.choose_sameLaw _)
  · exact .refl s

theorem State.hrdyChange_sameLaw (level : Bool) (s : State) : s.SameLaw (s.hrdyChange level) := by
  unfold State.hrdyChange
  split
  · exact (s.sameLaw_of_rep _).trans (State.choose_sameLaw _)
  · exact s.sameLaw_of_rep _

theorem State.ageLimit_sameLaw (s : State) : s.SameLaw s.ageLimit := by
  unfold State.ageLimit
  split
  · exact s.choose_sameLaw
  · exact .refl s

theorem State.summaryTimer_sameLaw (s : State) : s.SameLaw s.summaryTimer := by
  unfold State.summaryTimer
  split
  · exact (s.sameLaw_of_rep _).trans (State.notify_sameLaw _ _)
  · exact .refl s

/-- One sample period: the tick does not fall, and nothing else of the law changes (R1). -/
theorem State.advance_sameLaw (s : State) : s.SameLaw s.advance :=
  { State.SameLaw.refl s with
    chans := fun c => by
      have : s.advance.ch c = { s.ch c with frameSeen := false } := by simp [State.ch, State.advance]
      rw [this]
      exact ⟨rfl, rfl, .inl rfl⟩
    tick := by
      change s.tick ≤ nextTick s.tick
      unfold nextTick
      split <;> omega
    busy := fun free => by simp [State.advance, Locator.tick, free] }

end Sys2Proof.Machine
end

section
/-! PROOFS. The operations that change a channel's state, the offers or the hit list keep them lawful (R19, R28, R35 to
R38, R46 to R48, R53 to R55, R156). -/

namespace Sys2Proof.Machine

/-! ### One channel changed -/

/-- A channel replaced by a legal one, whose hit in progress, if any, was there before or is opened now in ARMED. -/
theorem State.setCh_keepsLaw {s : State} {c : Chan} {x : Channel}
    (legal : s.ChannelsLegal → x.Legal s.ctl.run (s.claimed c))
    (held : ∀ h, x.state = .hit h →
      (∃ k, (s.ch c).state = .hit k ∧ k.arrival = h.arrival) ∨ (s.tick ≤ h.arrival ∧ s.ctl.run = .armed)) :
    s.KeepsLaw (s.setCh c x) := by
  have holds (a : Nat) (ha : (s.setCh c x).Holds a) : s.Holds a ∨ (s.tick ≤ a ∧ s.ctl.run = .armed) := by
    rcases ha with ⟨d, h, e, rfl⟩ | ⟨r, hr, rfl⟩
    · by_cases g : d = c
      · subst g
        rw [State.setCh_ch_same] at e
        exact (held h e).imp_left fun ⟨k, ek, same⟩ => .inl ⟨d, k, ek, same⟩
      · rw [State.setCh_ch_other _ _ g] at e
        exact .inl (.inl ⟨d, h, e, rfl⟩)
    · exact .inl (.inr ⟨r, hr, rfl⟩)
  refine ⟨fun l => ?_, fun _ => State.SameEvents.legal { State.SameEvents.refl s with } id,
    fun _ l => l.of_past rfl fun a p => ?_⟩
  · refine (State.channelsLegal_iff _).mpr ⟨fun d => ?_, l.rest.offers, l.rest.freeze, l.rest.check, l.rest.began⟩
    change ((s.setCh c x).ch d).Legal s.ctl.run (s.claimed d)
    by_cases g : d = c
    · subst g; rw [State.setCh_ch_same]; exact legal l
    · rw [State.setCh_ch_other _ _ g]; exact l.each d
  · refine p.mono (fun b => ?_) (Nat.le_refl _) fun b hb => (holds b hb).imp_right And.left
    unfold State.HasHorizon at *
    rcases b with b | ⟨f, a, ha⟩
    · exact .inl b
    · rcases holds a ha with k | ⟨-, k⟩
      · exact .inr ⟨f, a, k⟩
      · exact .inl k

/-- A channel replaced by a legal one with no hit in progress. -/
theorem State.setCh_keepsLaw_of_no_hit {s : State} {c : Chan} {x : Channel}
    (legal : s.ChannelsLegal → x.Legal s.ctl.run (s.claimed c)) (noHit : ∀ h, x.state ≠ .hit h) :
    s.KeepsLaw (s.setCh c x) := State.setCh_keepsLaw legal fun h e => absurd e (noHit h)

@[simp] theorem Channel.applyPending_enable (x : Channel) : x.applyPending.cfg.enable = x.cfg.enable := by
  rw [Channel.applyPending_eq]
  unfold Channel.withPending
  dsimp only
  split <;> rfl

@[simp] theorem Channel.applyPending_lane (x : Channel) : x.applyPending.lane = x.lane := by
  rw [Channel.applyPending_eq]
  rfl

/-- A working channel goes to QUIET with its pending threshold applied (R25). -/
theorem State.quiet_keepsLaw {s : State} {c : Chan} (on : (s.ch c).state ≠ .off) (sound : (s.ch c).state ≠ .fault) :
    s.KeepsLaw (s.modCh c fun x => { x.applyPending with state := .quiet }) :=
  State.setCh_keepsLaw_of_no_hit (fun l => Channel.legal_of_idle (by simpa using (l.each c).working on sound) (.inl rfl))
    fun _ h => nomatch h

/-- A working channel goes to QUIET, or to TESTING under the claim of a check (R28, R38). -/
theorem State.toQuiet_keepsLaw {s : State} {c : Chan} (on : (s.ch c).state ≠ .off) (sound : (s.ch c).state ≠ .fault) :
    s.KeepsLaw (s.toQuiet c) := by
  refine State.setCh_keepsLaw_of_no_hit (fun l => ?_) fun h => ?_
  · refine Channel.legal_of_idle (by simpa using (l.each c).working on sound) ?_
    dsimp only
    split
    · next claim => exact .inr (.inr ⟨rfl, (Bool.and_eq_true_iff.mp claim).1⟩)
    · exact .inl rfl
  · dsimp only
    split <;> simp

theorem State.settlingComplete_keepsLaw (c : Chan) (s : State) : s.KeepsLaw (s.settlingComplete c) := by
  unfold State.settlingComplete
  split
  · next due =>
    have cleared : s.SameLaw (s.modCh c fun x => { x with settleDue := false }) :=
      s.modCh_sameLaw c _ fun _ => ⟨rfl, rfl, .inl rfl⟩
    exact cleared.keeps.trans (State.toQuiet_keepsLaw (by simp [due.1]) (by simp [due.1]))
  · exact .refl s

theorem State.lockoutEnd_keepsLaw (c : Chan) (s : State) : s.KeepsLaw (s.lockoutEnd c) := by
  unfold State.lockoutEnd
  split
  · next till e =>
    split
    · exact State.toQuiet_keepsLaw (by simp [e]) (by simp [e])
    · exact .refl s
  · exact .refl s

theorem State.laneRecovered_keepsLaw (c : Chan) (s : State) : s.KeepsLaw (s.laneRecovered c) := by
  unfold State.laneRecovered
  split
  · next due =>
    dsimp only
    split
    · next fault =>
      refine .trans ?_ (State.notify_sameLaw _ _).keeps
      rw [State.modCh_modCh]
      refine State.setCh_keepsLaw_of_no_hit (fun l => ?_) fun _ h => nomatch h
      exact Channel.legal_of_idle ⟨((l.each c).fault.mp fault).1, rfl⟩ (.inr (.inl rfl))
    · next noFault =>
      -- a LOST lane with no FAULT is that of a disabled channel
      refine State.keepsLaw_of fun l => ?_
      have disabled : (s.ch c).cfg.enable = false := by
        cases e : (s.ch c).cfg.enable with
        | false => rfl
        | true => exact absurd ((l.each c).fault.mpr ⟨e, due.1⟩) noFault
      have off := (l.each c).off.mpr disabled
      refine State.setCh_keepsLaw_of_no_hit (fun _ => ?_) fun h => by simp [off]
      exact ⟨by simp [off, disabled], by simp [off, disabled], by simp [off], by simp [off], by simp [off]⟩
  · exact .refl s

/-- A count in QUIET opens a hit in ARMED: its arrival is the tick, which the horizon does not pass (R31, R50). -/
theorem State.openHit_state_keepsLaw {s : State} {c : Chan} (quiet : (s.ch c).state = .quiet)
    (armed : s.ctl.run = .armed) (mag : Nat) (clip : Bool) (st : Stamp) :
    s.KeepsLaw (s.modCh c fun x => { x with state := .hit (Hit.opened s.tick mag clip st), blockBad := true }) := by
  refine State.setCh_keepsLaw (fun l => ?_) fun h e => ?_
  · exact Channel.legal_of_working ((l.each c).working (by simp [quiet]) (by simp [quiet])) (by simp) (by simp)
      (by simp) (fun _ _ => .inl armed) (by simp)
  · cases e
    exact .inr ⟨Nat.le_refl _, armed⟩

/-! ### Offers (R47 to R49) -/

/-- The hit list's order (R44). -/
def Entry.Ordered (a b : Entry) : Prop :=
  a.record.arrival < b.record.arrival ∨
    (a.record.arrival = b.record.arrival ∧ a.record.channel ≤ b.record.channel)

theorem HitRec.before_iff (a b : HitRec) :
    a.before b = true ↔ a.arrival < b.arrival ∨ (a.arrival = b.arrival ∧ a.channel < b.channel) := by
  simp [HitRec.before]

theorem mem_insertEntry {e x : Entry} {l : List Entry} : x ∈ insertEntry e l ↔ x = e ∨ x ∈ l := by
  induction l with
  | nil => simp [insertEntry]
  | cons y l ih =>
    simp only [insertEntry]
    split
    · simp only [List.mem_cons, ih]
      tauto
    · simp

/-- An insertion keeps the list in order of arrival, then channel (R44, R47). -/
theorem insertEntry_ordered {e : Entry} {l : List Entry} (h : l.Pairwise Entry.Ordered) :
    (insertEntry e l).Pairwise Entry.Ordered := by
  induction l with
  | nil => simp [insertEntry]
  | cons y l ih =>
    rw [List.pairwise_cons] at h
    simp only [insertEntry]
    split
    · next before =>
      refine List.pairwise_cons.mpr ⟨fun x hx => ?_, ih h.2⟩
      rcases mem_insertEntry.mp hx with rfl | hx
      · exact ((HitRec.before_iff _ _).mp before).imp_right fun ⟨a, b⟩ => ⟨a, le_of_lt b⟩
      · exact h.1 x hx
    · next behind =>
      have first : e.Ordered y := by
        rw [HitRec.before_iff] at behind
        unfold Entry.Ordered
        by_contra g
        simp only [not_or, not_and, not_lt, not_le] at behind g
        rcases Nat.lt_or_ge y.record.arrival e.record.arrival with k | k
        · exact absurd k (Nat.not_lt.mpr behind.1)
        · exact absurd (g.2 (Nat.le_antisymm behind.1 g.1)) (not_lt.mpr (behind.2 (Nat.le_antisymm g.1 behind.1)))
      refine List.pairwise_cons.mpr ⟨fun x hx => ?_, List.pairwise_cons.mpr h⟩
      rcases List.mem_cons.mp hx with rfl | hx
      · exact first
      · have second := h.1 x hx
        unfold Entry.Ordered at *
        rcases first with a | ⟨a, b⟩
        · rcases second with c | ⟨c, d⟩
          · exact .inl (a.trans c)
          · exact .inl (a.trans_eq c)
        · rcases second with c | ⟨c, d⟩
          · exact .inl (a.trans_lt c)
          · exact .inr ⟨a.trans c, b.trans d⟩

/-- An entry that waits, inserted behind every taken one, leaves the taken ones in front (R46). -/
theorem insertEntry_front {r : HitRec} {l : List Entry} (h : l.Pairwise fun a b => b.taken = true → a.taken = true)
    (ahead : ∀ x ∈ l, x.taken = true → x.record.arrival < r.arrival) :
    (insertEntry ⟨r, false⟩ l).Pairwise fun a b => b.taken = true → a.taken = true := by
  induction l with
  | nil => simp [insertEntry]
  | cons y l ih =>
    rw [List.pairwise_cons] at h
    rw [List.forall_mem_cons] at ahead
    simp only [insertEntry]
    split
    · refine List.pairwise_cons.mpr ⟨fun x hx taken => ?_, ih h.2 ahead.2⟩
      rcases mem_insertEntry.mp hx with rfl | hx
      · cases taken
      · exact h.1 x hx taken
    · next behind =>
      have waits : ∀ x ∈ y :: l, x.taken ≠ true := by
        have first : y.taken ≠ true := fun taken => behind ((HitRec.before_iff _ _).mpr (.inl (ahead.1 taken)))
        intro x hx taken
        rcases List.mem_cons.mp hx with rfl | hx
        · exact first taken
        · exact first (h.1 x hx taken)
      exact List.pairwise_cons.mpr ⟨fun x hx taken => absurd taken (waits x hx), List.pairwise_cons.mpr h⟩

/-- An entry that waits is no member of the open event (R46). -/
theorem filter_taken_insertEntry (r : HitRec) (l : List Entry) :
    (insertEntry ⟨r, false⟩ l).filter (·.taken) = l.filter (·.taken) := by
  induction l with
  | nil => rfl
  | cons y l ih =>
    simp only [insertEntry]
    split
    · simp only [List.filter_cons, ih]
    · simp

/-- Every taken entry is earlier than a. -/
def State.TakenBefore (s : State) (a : Nat) : Prop := ∀ e ∈ s.hitList, e.taken = true → e.record.arrival < a

theorem State.offer_sameChannels (s : State) (r : HitRec) : s.SameChannels (s.offer r) := by
  have counts (u : State) (f : Channel → Channel) (h : ∀ x : Channel, x.Alike (f x)) :
      u.SameChannels (u.modCh r.channel f) := (u.modCh_sameLaw r.channel f h).toSameChannels
  rcases s.offer_cases r with ⟨_, e⟩ | ⟨_, e⟩
  · rw [e]
    refine .trans (t := { s with hitList := insertEntry ⟨r, false⟩ s.hitList }) { State.SameChannels.refl s with }
      (counts _ _ fun _ => ⟨rfl, rfl, .inl rfl⟩)
  · rw [e]
    refine .trans (t := { s with dropRange := some (extendDrop r.arrival s.dropRange), dropFlag := true })
      { State.SameChannels.refl s with } (counts _ _ fun _ => ⟨rfl, rfl, .inl rfl⟩)

/-- An offer enters the list, waiting, or leaves it as it was (R47, R49). -/
theorem State.offer_hitList (s : State) (r : HitRec) :
    (s.offer r).hitList = insertEntry ⟨r, false⟩ s.hitList ∨ (s.offer r).hitList = s.hitList := by
  rcases s.offer_cases r with ⟨_, e⟩ | ⟨_, e⟩
  · exact .inl (by rw [e]; rfl)
  · exact .inr (by rw [e]; rfl)

theorem State.offer_taken (s : State) (r : HitRec) : (s.offer r).taken = s.taken := by
  unfold State.taken
  rcases s.offer_hitList r with e | e
  · rw [e, filter_taken_insertEntry]
  · rw [e]

theorem State.offer_takenBefore (s : State) (r : HitRec) {a : Nat} (h : s.TakenBefore a) :
    (s.offer r).TakenBefore a := by
  intro x hx taken
  rcases s.offer_hitList r with e | e
  · rw [e] at hx
    rcases mem_insertEntry.mp hx with rfl | hx
    · cases taken
    · exact h x hx taken
  · exact h x (e ▸ hx) taken

/-- An offer keeps the events lawful where the run state lets the list hold entries (R83). -/
theorem State.offer_events {s : State} (r : HitRec) (run : s.ctl.run = .armed ∨ s.ctl.run = .freezing)
    (e : s.EventsLegal) : (s.offer r).EventsLegal where
  closed := by rw [s.offer_taken, State.offer_assoc]; exact e.closed
  members := by rw [s.offer_taken]; exact e.members
  channels := by rw [s.offer_taken]; exact e.channels
  window := by rw [s.offer_taken, State.offer_assoc]; exact e.window
  number := by rw [State.offer_assoc]; exact e.number
  still q := by
    rw [State.offer_ctl] at q
    rcases run with g | g <;> simp [g] at q

/-- An offer of an arrival after every taken entry keeps the list lawful (R44, R46). -/
theorem State.offer_list {s : State} {r : HitRec} (ahead : s.TakenBefore r.arrival) (l : s.ListLegal) :
    (s.offer r).ListLegal := by
  have past (a : Nat) : s.Past a → (s.offer r).Past a := (s.offer_sameChannels r).past
  rcases s.offer_hitList r with e | e
  · refine ⟨?_, ?_, fun x hx taken => ?_⟩
    · rw [e]; exact insertEntry_ordered l.order
    · rw [e]; exact insertEntry_front l.front ahead
    · rw [e] at hx
      rw [State.past_iff]
      rcases mem_insertEntry.mp hx with rfl | hx
      · cases taken
      · exact past _ ((s.past_iff _).mp (l.settled x hx taken))
  · exact l.of_past e past

/-- Where a horizon is, every taken entry is earlier than what is held (R52). -/
theorem State.ListLegal.takenBefore {s : State} (l : s.ListLegal) (b : s.HasHorizon) {a : Nat} (held : s.Holds a) :
    s.TakenBefore a := fun x hx taken => (((s.past_iff _).mp (l.settled x hx taken)) b).2 a held

/-- What is held is held in ARMED or FREEZING, and bounds the horizon. -/
theorem State.ChannelsLegal.run_of_holds {s : State} (l : s.ChannelsLegal) {a : Nat} (held : s.Holds a) :
    s.ctl.run = .armed ∨ s.ctl.run = .freezing := by
  rcases held with ⟨c, h, e, -⟩ | ⟨r, hr, -⟩
  · exact l.hit c h e
  · exact l.offers (List.ne_nil_of_mem hr)

theorem State.ChannelsLegal.hasHorizon {s : State} (l : s.ChannelsLegal) {a : Nat} (held : s.Holds a) :
    s.HasHorizon := (l.run_of_holds held).imp_right fun f => ⟨f, a, held⟩

/-- An offer of an arrival that its channel still holds (R39, R50). -/
theorem State.offer_keepsLaw {s : State} {r : HitRec} (held : s.Holds r.arrival) : s.KeepsLaw (s.offer r) where
  channels := (s.offer_sameChannels r).legal
  events l := State.offer_events r (l.run_of_holds held)
  list l k := State.offer_list (k.takenBefore (l.hasHorizon held) held) k

theorem mem_insertOffer {r x : HitRec} {l : List HitRec} : x ∈ insertOffer r l ↔ x = r ∨ x ∈ l := by
  induction l with
  | nil => simp [insertOffer]
  | cons y l ih =>
    simp only [insertOffer]
    split
    · simp only [List.mem_cons, ih]
      tauto
    · simp

/-- An offer that waits holds what its hit held (log 34). -/
theorem State.wait_keepsLaw {s : State} {r : HitRec} (held : s.Holds r.arrival) :
    s.KeepsLaw { s with offers := insertOffer r s.offers } := by
  have holds (a : Nat) (ha : State.Holds { s with offers := insertOffer r s.offers } a) : s.Holds a := by
    rcases ha with ⟨c, h, e, rfl⟩ | ⟨x, hx, rfl⟩
    · exact .inl ⟨c, h, e, rfl⟩
    · rcases mem_insertOffer.mp hx with rfl | hx
      · exact held
      · exact .inr ⟨x, hx, rfl⟩
  refine ⟨fun l => ?_, fun _ => State.SameEvents.legal { State.SameEvents.refl s with } id,
    fun _ l => l.of_past rfl fun a p => ?_⟩
  · exact (State.channelsLegal_iff _).mpr ⟨l.each, fun _ => l.run_of_holds held, l.rest.freeze, l.rest.check,
      l.rest.began⟩
  · refine p.mono (fun b => ?_) (Nat.le_refl _) fun b hb => .inl (holds b hb)
    exact b.imp_right fun ⟨f, a, ha⟩ => ⟨f, a, holds a ha⟩

theorem State.offerInTurn_keepsLaw {s : State} {r : HitRec} (held : s.Holds r.arrival) :
    s.KeepsLaw (s.offerInTurn r) := by
  rcases s.offerInTurn_cases r with ⟨_, e⟩ | ⟨_, e⟩
  · rw [e]; exact State.offer_keepsLaw held
  · rw [e]; exact State.wait_keepsLaw held

/-- The list takes offers whose arrivals are after every taken entry. -/
theorem State.foldl_offer_list (l : List HitRec) {s : State} (ahead : ∀ r ∈ l, s.TakenBefore r.arrival)
    (k : s.ListLegal) : (l.foldl State.offer s).ListLegal := by
  induction l generalizing s with
  | nil => exact k
  | cons r l ih =>
    rw [List.forall_mem_cons] at ahead
    exact ih (fun x hx => s.offer_takenBefore r (ahead.2 x hx)) (State.offer_list ahead.1 k)

theorem State.foldl_offer_events (l : List HitRec) {s : State} (run : s.ctl.run = .armed ∨ s.ctl.run = .freezing)
    (e : s.EventsLegal) : (l.foldl State.offer s).EventsLegal := by
  induction l generalizing s with
  | nil => exact e
  | cons r l ih => exact ih (by rw [State.offer_ctl]; exact run) (State.offer_events r run e)

/-- The list takes the offers that wait: their arrivals held the horizon back until now (R48, R52). -/
theorem State.takeOffers_keepsLaw (s : State) : s.KeepsLaw s.takeOffers := by
  have gone (a : Nat) (p : s.Past a) : State.Past { s with offers := [] } a := by
    have holds (b : Nat) (hb : State.Holds { s with offers := [] } b) : s.Holds b := by
      rcases hb with k | ⟨r, hr, -⟩
      · exact .inl k
      · cases hr
    exact p.mono (fun b => b.imp_right fun ⟨f, a, ha⟩ => ⟨f, a, holds a ha⟩) (Nat.le_refl _)
      fun b hb => .inl (holds b hb)
  refine ⟨fun l => ?_, fun l e => ?_, fun l k => ?_⟩
  · have taken : State.SameChannels { s with offers := [] } s.takeOffers :=
      foldl_holds (State.SameChannels { s with offers := [] }) State.offer
        (fun t r h => h.trans (t.offer_sameChannels r)) _ _ (.refl _)
    exact taken.legal ((State.channelsLegal_iff _).mpr
      ⟨l.each, fun no => absurd rfl no, l.rest.freeze, l.rest.check, l.rest.began⟩)
  · have cleared : State.EventsLegal { s with offers := [] } :=
      State.SameEvents.legal { State.SameEvents.refl s with } id e
    by_cases waits : s.offers = []
    · have none : s.takeOffers = { s with offers := [] } := by simp only [State.takeOffers, waits, List.foldl_nil]
      exact none ▸ cleared
    · exact State.foldl_offer_events _ (l.offers waits) cleared
  · refine State.foldl_offer_list _ (fun r hr => ?_) (k.of_past rfl gone)
    have held : s.Holds r.arrival := .inr ⟨r, hr, rfl⟩
    exact k.takenBefore (l.hasHorizon held) held

/-! ### The end of a hit, and its cut (R35 to R38) -/

/-- An offer leaves the state of every channel as it is (R39). -/
theorem State.offerInTurn_alike (s : State) (r : HitRec) (c : Chan) : (s.ch c).Alike ((s.offerInTurn r).ch c) := by
  rcases s.offerInTurn_cases r with ⟨_, e⟩ | ⟨_, e⟩
  · rw [e]; exact (s.offer_sameChannels r).chans c
  · rw [e]; exact .refl _

/-- After an offer its channel still has the hit in progress. -/
theorem State.offerInTurn_hit {s : State} {c : Chan} {h : Hit} (e : (s.ch c).state = .hit h) (r : HitRec) :
    ∃ k, ((s.offerInTurn r).ch c).state = .hit k := by
  rcases (s.offerInTurn_alike r c).state with same | ⟨_, k, -, ek, -⟩
  · exact ⟨h, same.trans e⟩
  · exact ⟨k, ek⟩

theorem State.cutHit_keepsLaw {s : State} {c : Chan} {h : Hit} (e : (s.ch c).state = .hit h) :
    s.KeepsLaw (s.cutHit c h) := State.offerInTurn_keepsLaw (.inl ⟨c, h, e, rfl⟩)

theorem State.cutCh_keepsLaw (s : State) (c : Chan) : s.KeepsLaw (s.cutCh c) := by
  unfold State.cutCh
  split
  · next h e =>
    refine (State.cutHit_keepsLaw e).trans ?_
    obtain ⟨k, ek⟩ := State.offerInTurn_hit e _
    exact State.quiet_keepsLaw (by rw [State.cutHit, ek]; simp) (by rw [State.cutHit, ek]; simp)
  · exact .refl s

theorem State.cutAll_keepsLaw (s : State) (cs : List Chan) : s.KeepsLaw (s.cutAll cs) :=
  .foldl State.cutCh_keepsLaw cs s

theorem State.finishCuts_keepsLaw (s : State) : s.KeepsLaw s.finishCuts := by
  unfold State.finishCuts
  split
  · exact s.takeOffers_keepsLaw
  · exact .refl s

theorem State.lastCuts_keepsLaw (s : State) : s.KeepsLaw s.lastCuts := by
  unfold State.lastCuts
  split
  · exact s.cutAll_keepsLaw _
  · exact .refl s

/-- A hit ends by itself: outside FREEZING its channel was in ARMED, where it may go to LOCKOUT (R38). -/
theorem State.endHit_keepsLaw {c : Chan} {h : Hit} {s : State} (e : (s.ch c).state = .hit h) (ends : s.hitsEnd = true)
    (d : Nat) (long : Bool) : s.KeepsLaw (s.endHit c h d long) := by
  refine State.keepsLaw_of fun l => ?_
  have armed : s.ctl.run = .armed := by
    have running := l.hit c h e
    simp only [State.hitsEnd, decide_eq_true_eq] at ends
    exact running.resolve_right ends
  have offered := State.offerInTurn_keepsLaw (r := h.record c (s.ch c).cfg long false) (.inl ⟨c, h, e, rfl⟩)
  obtain ⟨k, ek⟩ := State.offerInTurn_hit e (h.record c (s.ch c).cfg long false)
  unfold State.endHit
  dsimp only
  split
  · exact offered.trans (State.toQuiet_keepsLaw (by simp [ek]) (by simp [ek]))
  · refine offered.trans (State.setCh_keepsLaw_of_no_hit (fun l => ?_) fun _ h => nomatch h)
    exact Channel.legal_of_working ((l.each c).working (by simp [ek]) (by simp [ek])) (by simp) (by simp)
      (fun _ _ => by rw [State.offerInTurn_ctl]; exact armed) (by simp) (by simp)

theorem State.hitEnd_keepsLaw (c : Chan) (s : State) : s.KeepsLaw (s.hitEnd c) := by
  unfold State.hitEnd
  split
  · next h e =>
    split
    · next due => exact State.endHit_keepsLaw e (Bool.and_eq_true_iff.mp due).2 _ _
    · exact .refl s
  · exact .refl s

theorem State.forcedEnd_keepsLaw (c : Chan) (s : State) : s.KeepsLaw (s.forcedEnd c) := by
  unfold State.forcedEnd
  split
  · next h e =>
    split
    · next due => exact State.endHit_keepsLaw e (Bool.and_eq_true_iff.mp due).2 _ _
    · exact .refl s
  · exact .refl s

/-! ### Lane loss and the claims of a check (R19, R138) -/

/-- An enabled channel in FAULT with its lane LOST is legal (R19). -/
theorem Channel.faulted_legal {x : Channel} (enabled : x.cfg.enable = true) (run : RunState) (claimed : Bool) :
    x.faulted.Legal run claimed := by
  have same : x.faulted.cfg.enable = x.cfg.enable := by
    rw [← Channel.applyPending_enable x, Channel.applyPending_eq]
    rfl
  have fault : x.faulted.state = .fault := rfl
  exact ⟨by simp [fault, same, enabled], ⟨fun _ => ⟨same.trans enabled, rfl⟩, fun _ => fault⟩,
    by simp [fault], by simp [fault], by simp [fault]⟩

/-- Without channel c the check claims every other channel as before. -/
theorem State.claimed_checkWithout (s : State) {c d : Chan} (h : d ≠ c) :
    State.claimed { s with chk := s.checkWithout c } d = s.claimed d := by
  have other (ck : Check) : (ck.removed.set c.val true)[d] = ck.removed[d] :=
    Vector.getElem_set_ne _ _ fun g => h (Fin.ext g.symm)
  unfold State.claimed
  dsimp only
  cases e : s.chk.check with
  | none => simp [State.checkWithout, e]
  | some ck =>
    by_cases leaves : ck.involved[c] = true ∧ ck.removed[c] = false ∧ (s.tick < 281474976710655 ∨ s.ctl.run = .armed)
    · simp only [State.checkWithout, e, if_pos leaves, Check.owns, other]
    · simp only [State.checkWithout, e, if_neg leaves]

theorem State.checkWithout_check (s : State) (c : Chan) :
    (∀ ck, (s.checkWithout c).check = some ck → ∃ k, s.chk.check = some k ∧ ck.startRun = k.startRun) ∧
      (s.chk.check = none → (s.checkWithout c).check = none) := by
  unfold State.checkWithout
  cases e : s.chk.check with
  | none => simp [e]
  | some k =>
    dsimp only
    split
    · exact ⟨fun ck h => ⟨k, rfl, by cases h; rfl⟩, fun h => nomatch h⟩
    · exact ⟨fun ck h => ⟨ck, e ▸ h, rfl⟩, fun h => nomatch h⟩

/-- A channel that is not in TESTING may leave the check (R138). -/
theorem State.checkWithout_keepsLaw {s : State} {c : Chan} (out : (s.ch c).state ≠ .testing) (k : CheckUnit)
    (is : k = s.checkWithout c) : s.KeepsLaw { s with chk := k } := by
  subst is
  obtain ⟨began, none⟩ := s.checkWithout_check c
  refine ⟨fun l => ?_, fun _ => State.SameEvents.legal { State.SameEvents.refl s with } id,
    fun _ l => l.of_past rfl fun a p => p⟩
  refine (State.channelsLegal_iff _).mpr ⟨fun d => ?_, l.rest.offers, l.rest.freeze, fun f => none (l.check f), ?_⟩
  · have legal := l.each d
    refine ⟨legal.off, legal.fault, legal.lockout, legal.hit, fun testing => ?_⟩
    have other : d ≠ c := fun g => out (g ▸ testing)
    rw [s.claimed_checkWithout other]
    exact legal.testing testing
  · intro ck h
    obtain ⟨k, hk, same⟩ := began ck h
    exact same.trans (l.began k hk)

theorem Channel.faulted_alike_of_counts (x : Channel) (a b d : Nat) :
    Channel.faulted { x with ended := a, entered := b, dropped := d } =
      { x.faulted with ended := a, entered := b, dropped := d } := by
  simp [Channel.faulted, Channel.withPending]

/-- The loss of a lane: the hit in progress is offered, the channel is in FAULT, and it has left the check (R19, R37,
R138). -/
theorem State.loseLane_keepsLaw (c : Chan) (s : State) : s.KeepsLaw (s.loseLane c) := by
  by_cases off : (s.ch c).state = .off
  · have e : s.loseLane c = s.modCh c fun x => { x with lane := .lost, goodRun := 0 } := by
      simp only [State.loseLane, off]
    rw [e]
    refine State.setCh_keepsLaw_of_no_hit (fun l => ?_) fun h => by simp [off]
    have disabled := (l.each c).off.mp off
    exact ⟨by simp [off, disabled], by simp [off, disabled], by simp [off], by simp [off], by simp [off]⟩
  · have enabled (l : s.ChannelsLegal) : (s.ch c).cfg.enable = true := by
      cases e : (s.ch c).cfg.enable with
      | true => rfl
      | false => exact absurd ((l.each c).off.mpr e) off
    by_cases inHit : ∃ h, (s.ch c).state = .hit h
    · obtain ⟨h, e⟩ := inHit
      have offers : s.offered (s.cutRecord c h) (s.ch c).faulted =
          (s.offerInTurn (s.cutRecord c h)).modCh c Channel.faulted := by
        rw [State.offerInTurn_eq, State.cutRecord_channel]
        exact (State.offered_modCh s _ _ _ (Channel.faulted_alike_of_counts _)).symm
      rw [State.loseLane_hit e, State.lostInHit, ← State.offered_chk, offers]
      refine State.KeepsLaw.trans (t := (s.offerInTurn (s.cutRecord c h)).modCh c Channel.faulted) ?_ ?_
      · refine State.keepsLaw_of fun l => ?_
        refine (State.offerInTurn_keepsLaw (.inl ⟨c, h, e, rfl⟩)).trans
          (State.setCh_keepsLaw_of_no_hit (fun _ => Channel.faulted_legal ?_ _ _) fun _ h => nomatch h)
        rw [(s.offerInTurn_alike _ c).enable]
        exact enabled l
      · refine State.KeepsLaw.trans (State.checkWithout_keepsLaw (c := c) (by simp [Channel.faulted]) _ ?_)
          (State.notify_sameLaw _ _).keeps
        simp [State.checkWithout]
    · rw [State.loseLane_idle (fun k e => inHit ⟨k, e⟩) off]
      refine State.KeepsLaw.trans (t := s.setCh c (s.ch c).faulted) ?_ ?_
      · exact State.setCh_keepsLaw_of_no_hit (fun l => Channel.faulted_legal (enabled l) _ _) fun _ h => nomatch h
      · exact State.KeepsLaw.trans (State.checkWithout_keepsLaw (c := c) (by simp [Channel.faulted]) _ rfl)
          (State.notify_sameLaw _ _).keeps

theorem State.laneLost_keepsLaw (c : Chan) (s : State) : s.KeepsLaw (s.laneLost c) := by
  unfold State.laneLost
  split
  · split
    · split
      · exact s.loseLane_keepsLaw c
      · exact .refl s
    · exact s.loseLane_keepsLaw c
  · exact .refl s

theorem State.catchUp_keepsLaw (s : State) (c : Chan) : s.KeepsLaw (s.catchUp c) :=
  ((((((s.noiseBlockEnd_sameLaw c).keeps.trans (State.settlingComplete_keepsLaw c _)).trans
    (State.hitEnd_keepsLaw c _)).trans (State.forcedEnd_keepsLaw c _)).trans
    (State.lockoutEnd_keepsLaw c _)).trans (State.laneLost_keepsLaw c _)).trans (State.laneRecovered_keepsLaw c _)

theorem State.closeSample_keepsLaw (s : State) : s.KeepsLaw s.closeSample :=
  ((s.allSeen_sameLaw.keeps.trans (State.lastCuts_keepsLaw _)).trans (.foldl State.catchUp_keepsLaw _ _)).trans
    (State.takeOffers_keepsLaw _)

end Sys2Proof.Machine
end

section
/-! PROOFS. The freeze, the lanes' frames, CHANNEL SET and the check's start and end keep the channels, the open event and
the hit list lawful (R18, R22, R30 to R34, R58, R134, R139, R147, R148, R156 to R158). -/

namespace Sys2Proof.Machine

/-! ### All channels changed at once -/

/-- A channel in the state it had is legal in another run state that its state fits. -/
theorem Channel.Legal.of_state {run run' : RunState} {claimed claimed' : Bool} {x y : Channel}
    (l : x.Legal run claimed) (enable : y.cfg.enable = x.cfg.enable) (lane : y.lane = x.lane)
    (state : y.state = x.state) (lockout : ∀ k, x.state = .lockout k → run' = .armed)
    (hit : ∀ h, x.state = .hit h → run' = .armed ∨ run' = .freezing) (testing : x.state = .testing → claimed' = true) :
    y.Legal run' claimed' where
  off := by rw [state, enable]; exact l.off
  fault := by rw [state, enable, lane]; exact l.fault
  lockout := by rw [state]; exact lockout
  hit := by rw [state]; exact hit
  testing := by rw [state]; exact testing

/-- All channels changed, with no hit opened, in a run state that stands or goes from ARMED to FREEZING. -/
theorem State.keepsLaw_of_chans {s t : State}
    (chans : s.ChannelsLegal → ∀ c, (t.ch c).Legal t.ctl.run (t.claimed c)) (rest : s.ChannelsLegal → t.RunLegal)
    (events : s.SameEvents t) (tick : t.tick = s.tick) (offers : t.offers = s.offers)
    (hits : ∀ c h, (t.ch c).state = .hit h → (s.ch c).state = .hit h)
    (run : t.ctl.run = s.ctl.run ∨ (s.ctl.run = .armed ∧ t.ctl.run = .freezing)) : s.KeepsLaw t := by
  have holds (a : Nat) (ha : t.Holds a) : s.Holds a := by
    rcases ha with ⟨c, h, e, rfl⟩ | ⟨r, hr, rfl⟩
    · exact .inl ⟨c, h, hits c h e, rfl⟩
    · exact .inr ⟨r, offers ▸ hr, rfl⟩
  refine ⟨fun l => (State.channelsLegal_iff _).mpr ⟨chans l, rest l⟩, fun _ => events.legal fun q => ?_,
    fun _ l => l.of_past events.hitList fun a p => p.mono (fun b => ?_) tick.ge fun b hb => .inl (holds b hb)⟩
  · rcases run with e | ⟨-, e⟩
    · rwa [e] at q
    · simp [e] at q
  · rcases run with e | ⟨e, -⟩
    · unfold State.HasHorizon at *
      rw [e] at b
      exact b.imp_right fun ⟨f, a, ha⟩ => ⟨f, a, holds a ha⟩
    · exact .inl e

/-! ### The freeze (R156) -/

theorem Channel.unlock_cases (x : Channel) :
    (∃ k, x.state = .lockout k ∧ x.unlock = { x.applyPending with state := .quiet }) ∨
      ((∀ k, x.state ≠ .lockout k) ∧ x.unlock = x) := by
  unfold Channel.unlock
  split
  · next k e => exact .inl ⟨k, e, rfl⟩
  · next no => exact .inr ⟨no, rfl⟩

/-- With its lockout ended and without a check's claim a channel is legal in FREEZING. -/
theorem Channel.Legal.unlock {x : Channel} {run : RunState} {claimed : Bool} (l : x.Legal run claimed)
    (out : x.state ≠ .testing) : x.unlock.Legal .freezing false := by
  rcases x.unlock_cases with ⟨k, e, is⟩ | ⟨no, is⟩
  · rw [is]
    exact Channel.legal_of_idle (by simpa using l.working (by simp [e]) (by simp [e])) (.inl rfl)
  · rw [is]
    exact l.of_state rfl rfl rfl (fun k e => absurd e (no k)) (fun _ _ => .inr rfl) fun e => absurd e out

theorem Channel.unlock_testing {x : Channel} : x.unlock.state = .testing ↔ x.state = .testing := by
  rcases x.unlock_cases with ⟨k, e, is⟩ | ⟨-, is⟩ <;> simp [*]

theorem Channel.unlock_hit {x : Channel} {h : Hit} (e : x.unlock.state = .hit h) : x.state = .hit h := by
  rcases x.unlock_cases with ⟨k, -, is⟩ | ⟨-, is⟩
  · simp [is] at e
  · rwa [is] at e

/-- Entry to FREEZING from ARMED, but for the cuts. -/
theorem State.setFreezing_keepsLaw {s : State} (armed : s.ctl.run = .armed) (why : FreezeReason) (cause : RunCause)
    (detail : RunDetail) : s.KeepsLaw (s.setFreezing why cause detail) := by
  have run : (s.setFreezing why cause detail).ctl.run = .freezing := by rw [State.setFreezing_ctl]
  have noCheck : (s.setFreezing why cause detail).chk.check = none := by rw [State.setFreezing, State.abortCheck_chk]
  have noClaim (c : Chan) : (s.setFreezing why cause detail).claimed c = false := by simp [State.claimed, noCheck]
  have ch := s.entered_ch why cause detail
  rw [State.entered_eq] at ch
  refine State.keepsLaw_of_chans (fun l c => ?_) (fun l => ⟨fun _ => .inr run, ?_, fun _ => noCheck, ?_⟩)
    ⟨by simp, by simp, by simp, by simp, by simp⟩ (by simp) (by simp) (fun c h e => ?_) (.inr ⟨armed, run⟩)
  · rw [run, noClaim, ch c]
    have legal := l.each c
    cases e : s.chk.check with
    | none =>
      refine legal.unlock fun testing => ?_
      have := legal.testing testing
      simp [State.claimed, e] at this
    | some ck =>
      dsimp only
      split
      · next out =>
        have working := legal.working (by simp [Channel.unlock_testing.mp out.2]) (by simp [Channel.unlock_testing.mp out.2])
        have same : (s.ch c).unlock = s.ch c := by
          rcases (s.ch c).unlock_cases with ⟨k, lockout, -⟩ | ⟨-, is⟩
          · simp [Channel.unlock_testing.mp out.2] at lockout
          · exact is
        exact Channel.legal_of_idle (by rw [same]; exact working) (.inl rfl)
      · next out =>
        refine legal.unlock fun testing => out ⟨?_, Channel.unlock_testing.mpr testing⟩
        have := legal.testing testing
        simp only [State.claimed, e, Check.owns, Bool.and_eq_true] at this
        exact this.1
  · rw [State.setFreezing_ctl]; simp
  · intro ck e; rw [noCheck] at e; cases e
  · rw [ch c] at e
    cases g : s.chk.check with
    | none => rw [g] at e; exact Channel.unlock_hit e
    | some ck =>
      rw [g] at e
      dsimp only at e
      split at e
      · cases e
      · exact Channel.unlock_hit e

theorem State.enterFreezing_keepsLaw {s : State} (armed : s.ctl.run = .armed) (why : FreezeReason) (cause : RunCause)
    (detail : RunDetail) : s.KeepsLaw (s.enterFreezing why cause detail) :=
  ((State.setFreezing_keepsLaw armed why cause detail).trans (State.cutAll_keepsLaw _ _)).trans
    (State.finishCuts_keepsLaw _)

theorem State.clipOnset_keepsLaw (s : State) (c : Chan) : s.KeepsLaw (s.clipOnset c) := by
  unfold State.clipOnset
  split
  · next armed =>
    split
    · have still : (s.recordClip c).ctl.run = .armed := armed
      exact (s.recordClip_sameLaw c).keeps.trans (State.enterFreezing_keepsLaw still _ _ _)
    · exact (s.recordClip_sameLaw c).keeps
  · exact .refl s

theorem State.dropTest_keepsLaw (s : State) (pPrev pFilt : Nat) : s.KeepsLaw (s.dropTest pPrev pFilt) := by
  unfold State.dropTest
  split
  · next drop => exact State.enterFreezing_keepsLaw drop.1 _ _ _
  · exact .refl s

theorem State.timeLimit_keepsLaw (s : State) : s.KeepsLaw s.timeLimit := by
  unfold State.timeLimit
  split
  · next held => exact State.enterFreezing_keepsLaw held.1 _ _ _
  · exact .refl s

/-! ### Frames of the lane (R18, R30 to R34) -/

theorem State.openHit_keepsLaw {s : State} {c : Chan} (quiet : (s.ch c).state = .quiet) (armed : s.ctl.run = .armed)
    (mag : Nat) (clip : Bool) : s.KeepsLaw (s.openHit c mag clip) := by
  have opened := (State.openHit_state_keepsLaw quiet armed mag clip s.press.stamp).trans
    (State.countOnset_sameLaw _ c s.tick s.press.stamp).keeps
  unfold State.openHit
  dsimp only
  split
  · exact opened.trans (State.clipOnset_keepsLaw _ c)
  · exact opened

theorem Hit.sample_arrival (h : Hit) (pdt tick mag : Nat) (count clip : Bool) :
    (h.sample pdt tick mag count clip).arrival = h.arrival := by
  unfold Hit.sample
  rfl

theorem State.sampleHit_keepsLaw {s : State} {c : Chan} {h : Hit} (e : (s.ch c).state = .hit h) (mag : Nat)
    (count clip : Bool) : s.KeepsLaw (s.sampleHit c h mag count clip) := by
  have sampled : s.SameLaw (s.modCh c fun x => { x with state := .hit (h.sample x.cfg.pdt s.tick mag count clip) }) :=
    State.setCh_sameLaw ⟨rfl, rfl, .inr ⟨h, _, e, rfl, Hit.sample_arrival h _ _ _ _ _⟩⟩
  unfold State.sampleHit
  dsimp only
  split
  · exact sampled.keeps.trans (State.clipOnset_keepsLaw _ c)
  · exact sampled.keeps

theorem State.afterHitSample_keepsLaw (c : Chan) (before : RunState) (s : State) :
    s.KeepsLaw (s.afterHitSample c before) := by
  unfold State.afterHitSample
  split
  · exact (s.cutCh_keepsLaw c).trans (State.finishCuts_keepsLaw _)
  · exact .refl s

@[simp] theorem Channel.validFrame_state (x : Channel) : x.validFrame.state = x.state := rfl

/-- A frame taken in the lane health and the noise block leaves the channel's state as it is. -/
theorem Channel.Alike.of_frame {x y : Channel} (cfg : y.cfg = x.cfg) (lane : y.lane = x.lane) (state : y.state = x.state) :
    x.Alike y := ⟨by rw [cfg], lane, .inl state⟩

theorem State.takeSample_keepsLaw (c : Chan) (sample : Sample) (s : State) : s.KeepsLaw (s.takeSample c sample) := by
  have taken : s.SameLaw (s.modCh c fun y =>
      { (y.validFrame).noiseFrame (some (magnitude sample)) with prevMag := magnitude sample, frameSeen := true }) :=
    s.modCh_sameLaw c _ fun x => .of_frame (by simp [Channel.validFrame]) (by simp [Channel.validFrame]) (by simp)
  unfold State.takeSample
  dsimp only at taken ⊢
  split
  · next quiet =>
    split
    · next counts =>
      refine taken.keeps.trans (State.openHit_keepsLaw ?_ ?_ _ _)
      · simpa using quiet
      · exact counts.1
    · exact taken.keeps
  · next h inHit =>
    exact (taken.keeps.trans (State.sampleHit_keepsLaw (by simpa using inHit) _ _ _)).trans
      (State.afterHitSample_keepsLaw c _ _)
  · exact (taken.trans (State.sampleTesting_sameLaw c _ _ _)).keeps
  · exact taken.keeps

theorem State.laneSample_keepsLaw (c : Chan) (sample : Sample) (s : State) : s.KeepsLaw (s.laneSample c sample) := by
  unfold State.laneSample
  split
  · exact .refl s
  · exact (s.catchUp_keepsLaw c).trans (State.takeSample_keepsLaw c sample _)

theorem State.takeMissing_keepsLaw (c : Chan) (s : State) : s.KeepsLaw (s.takeMissing c) := by
  have taken : s.SameLaw (s.modCh c fun y => { (y.missedFrame).noiseFrame none with prevMag := 0, frameSeen := true }) :=
    s.modCh_sameLaw c _ fun x => .of_frame (by simp [Channel.missedFrame]) (by simp [Channel.missedFrame])
      (by simp [Channel.missedFrame])
  unfold State.takeMissing
  dsimp only at taken ⊢
  split
  · exact taken.keeps.trans (State.afterHitSample_keepsLaw c _ _)
  · exact taken.keeps

theorem State.missingFrame_keepsLaw (c : Chan) (s : State) : s.KeepsLaw (s.missingFrame c) := by
  unfold State.missingFrame
  split
  · exact .refl s
  · exact (s.catchUp_keepsLaw c).trans (State.takeMissing_keepsLaw c _)

theorem State.tickStep_keepsLaw (s : State) : s.KeepsLaw s.tickStep := by
  have closed : s.KeepsLaw s.closeSample.decidePatterns.advance :=
    (s.closeSample_keepsLaw.trans (State.SameLaw.foldl State.patternOutcome_sameLaw _ _).keeps).trans
      (State.advance_sameLaw _).keeps
  unfold State.tickStep
  split
  · exact closed.trans (State.feedPattern_sameLaw _).keeps
  · exact closed

/-! ### CHANNEL SET (R22) -/

theorem State.takeEnable_keepsLaw (c : Chan) (carried : Option Nat) (s : State) :
    s.KeepsLaw (s.takeEnable c carried) := by
  unfold State.takeEnable
  split
  · exact .refl s
  · refine State.setCh_keepsLaw_of_no_hit (fun _ => ?_) fun _ h => nomatch h
    exact ⟨by simp, by simp, by simp, by simp, by simp⟩
  · split
    · next off =>
      dsimp only
      split
      · next good =>
        rw [State.modCh_modCh]
        exact State.setCh_keepsLaw_of_no_hit (fun _ => Channel.legal_of_idle ⟨rfl, good⟩ (.inr (.inl rfl)))
          fun _ h => nomatch h
      · next lost =>
        rw [State.enterFault, State.modCh_modCh]
        refine State.KeepsLaw.trans ?_ (State.notify_sameLaw _ _).keeps
        refine State.setCh_keepsLaw_of_no_hit (fun _ => ?_) fun _ h => nomatch h
        exact ⟨by simp, by simp [lost], by simp, by simp, by simp⟩
    · exact .refl s

@[simp] theorem Channel.applyThr_state (x : Channel) (code : Nat) : (x.applyThr code).state = x.state := by
  unfold Channel.applyThr
  split <;> rfl

@[simp] theorem Channel.applyThr_lane (x : Channel) (code : Nat) : (x.applyThr code).lane = x.lane := by
  unfold Channel.applyThr
  split <;> rfl

@[simp] theorem Channel.applyThr_enable (x : Channel) (code : Nat) : (x.applyThr code).cfg.enable = x.cfg.enable := by
  unfold Channel.applyThr
  split <;> rfl

theorem Channel.takeThr_alike (x : Channel) (carried : Option Nat) : x.Alike (x.takeThr carried) := by
  unfold Channel.takeThr
  split
  · exact .refl x
  · split
    · exact ⟨rfl, rfl, .inl rfl⟩
    · exact ⟨rfl, rfl, .inl rfl⟩
    · exact ⟨by simp, by simp, .inl (by simp)⟩

theorem Channel.takeMode_alike (x : Channel) (carried : Option Nat) : x.Alike (x.takeMode carried) := by
  unfold Channel.takeMode
  split
  · exact .refl x
  · split
    · exact .refl x
    · exact ⟨rfl, rfl, .inl rfl⟩

theorem State.setChannel_keepsLaw (i : ChanItems) (s : State) (c : Chan) : s.KeepsLaw (State.setChannel i s c) := by
  unfold State.setChannel
  refine (s.modCh_sameLaw c _ fun x => ?_).keeps.trans (State.takeEnable_keepsLaw c _ _)
  exact ((x.takeThr_alike _).trans (Channel.takeMode_alike _ _)).trans ⟨rfl, rfl, .inl rfl⟩

/-! ### The start and the end of a check (R134, R139, R147, R148) -/

/-- The channels at the start of a check: those involved and in QUIET enter TESTING (R28, R134). -/
theorem State.beginCheck_ch (s : State) (ck : Check) (policy : Policy) (c : Chan) :
    (s.beginCheck ck policy).ch c = if ck.involved[c] then
      { s.ch c with state := if (s.ch c).state = .quiet then .testing else (s.ch c).state, leftCheck := false }
    else s.ch c := by
  have claimed := State.mapCh_ch { s with chk := { s.chk with check := some ck, policy := policy } }
    (fun c x => if ck.involved[c] then
      { x with state := if x.state = .quiet then .testing else x.state, leftCheck := false } else x) c
  unfold State.beginCheck
  dsimp only
  split <;> exact claimed

theorem State.beginCheck_chk (s : State) (ck : Check) (policy : Policy) :
    (s.beginCheck ck policy).chk = { s.chk with check := some ck, policy := policy } := by
  unfold State.beginCheck
  dsimp only
  split <;> rfl

theorem State.releaseCheck_ch (s : State) (ck : Check) (c : Chan) : (s.releaseCheck ck).ch c =
      if ck.involved[c] = true ∧ (s.ch c).state = .testing then { s.ch c with state := .quiet } else s.ch c := by
  simp only [State.releaseCheck, State.mapCh_ch, Bool.and_eq_true, decide_eq_true_eq]
  rfl

/-- A check begins: the involved channels in QUIET enter TESTING under its claim (R28, R134). -/
theorem State.beginCheck_keepsLaw {s : State} {ck : Check} (free : s.chk.check = none) (run : s.ctl.run ≠ .freezing)
    (began : ck.startRun = s.ctl.run) (whole : ck.removed = Vector.replicate 16 false) (policy : Policy) :
    s.KeepsLaw (s.beginCheck ck policy) := by
  have claimed (c : Chan) : (s.beginCheck ck policy).claimed c = ck.involved[c] := by
    simp [State.claimed, State.beginCheck_chk, Check.owns, whole]
  have frame : (s.beginCheck ck policy).ctl = s.ctl ∧ (s.beginCheck ck policy).tick = s.tick ∧
      (s.beginCheck ck policy).offers = s.offers ∧ s.SameEvents (s.beginCheck ck policy) := by
    unfold State.beginCheck
    dsimp only
    split <;> exact ⟨by simp, by simp, by simp, by simp, by simp, by simp, by simp, by simp⟩
  obtain ⟨ctl, tick, offers, events⟩ := frame
  refine State.keepsLaw_of_chans (fun l c => ?_) (fun l => ⟨?_, ?_, ?_, ?_⟩) events tick offers (fun c h e => ?_)
    (.inl (by rw [ctl]))
  · have legal := l.each c
    have out : (s.ch c).state ≠ .testing := fun testing => by
      have := legal.testing testing
      simp [State.claimed, free] at this
    rw [ctl, claimed, State.beginCheck_ch]
    split
    · next involved =>
      by_cases quiet : (s.ch c).state = .quiet
      · exact Channel.legal_of_idle (x := { s.ch c with state := _, leftCheck := false })
          (legal.working (by simp [quiet]) (by simp [quiet])) (.inr (.inr ⟨by simp [quiet], involved⟩))
      · exact legal.of_state rfl rfl (by simp [quiet]) legal.lockout legal.hit fun testing => absurd testing out
    · exact legal.of_state rfl rfl rfl legal.lockout legal.hit fun testing => absurd testing out
  · rw [ctl, offers]; exact l.rest.offers
  · rw [ctl]; exact l.rest.freeze
  · intro freezing
    rw [ctl] at freezing
    exact absurd freezing run
  · intro k e
    rw [State.beginCheck_chk] at e
    cases e
    rw [ctl]
    exact began
  · rw [State.beginCheck_ch] at e
    split at e
    · dsimp only at e
      split at e
      · cases e
      · exact e
    · exact e

/-- The check in progress ends: its channels in TESTING return to QUIET (R147, R148). -/
theorem State.releaseCheck_keepsLaw {s : State} {ck : Check} (present : s.chk.check = some ck) :
    s.KeepsLaw (s.releaseCheck ck) := by
  refine State.keepsLaw_of_chans (fun l c => ?_) (fun l => ⟨l.rest.offers, l.rest.freeze, fun _ => rfl, fun _ e => nomatch e⟩)
    ⟨by simp, by simp, by simp, by simp, by simp⟩ (by simp) (by simp) (fun c h e => ?_) (.inl rfl)
  · have legal := l.each c
    rw [State.releaseCheck_ch]
    split
    · next out =>
      have testing := out.2
      exact Channel.legal_of_idle (x := { s.ch c with state := .quiet })
        (legal.working (by simp [testing]) (by simp [testing])) (.inl rfl)
    · next out =>
      refine legal.of_state rfl rfl rfl legal.lockout legal.hit fun testing => absurd ⟨?_, testing⟩ out
      have claim := legal.testing testing
      simp only [State.claimed, present, Check.owns, Bool.and_eq_true] at claim
      exact claim.1
  · rw [State.releaseCheck_ch] at e
    split at e
    · cases e
    · exact e

theorem State.abortCheck_keepsLaw (s : State) (why : AbortReason) : s.KeepsLaw (s.abortCheck why) := by
  unfold State.abortCheck
  split
  · exact .refl s
  · next ck present =>
    exact (State.releaseCheck_keepsLaw present).trans
      ((State.endSpan_sameLaw _ ck).trans (State.notify_sameLaw _ _)).keeps

theorem State.checkComplete_keepsLaw (s : State) : s.KeepsLaw s.checkComplete := by
  unfold State.checkComplete
  split
  · exact .refl s
  · next ck moving =>
    split
    · exact (State.releaseCheck_keepsLaw (State.check_of_moving moving)).trans
        (((State.endSpan_sameLaw _ ck).trans (State.keepResult_sameLaw s ck _)).trans (State.notify_sameLaw _ _)).keeps
    · exact .refl s

theorem State.tellPhase_keepsLaw (s : State) (old : Phase) : s.KeepsLaw (s.tellPhase old) := by
  unfold State.tellPhase
  split
  · exact .refl s
  · dsimp only
    split
    · exact (s.notify_sameLaw _).keeps
    · split
      · exact (s.notify_sameLaw _).keeps.trans (State.abortCheck_keepsLaw _ _)
      · exact (s.notify_sameLaw _).keeps

theorem State.useP_keepsLaw (s : State) (history : List Nat) (P : Nat) : s.KeepsLaw (s.useP history P) := by
  have told := fun p => (s.sameLaw_of_press p).keeps.trans (State.tellPhase_keepsLaw _ s.press.phase)
  unfold State.useP
  dsimp only
  split
  · exact told _
  · exact (told _).trans (State.dropTest_keepsLaw _ _ _)

theorem State.takeCode_keepsLaw (code : Code) (s : State) : s.KeepsLaw (s.takeCode code) := by
  unfold State.takeCode
  dsimp only
  split
  · exact (State.takeFlag_sameLaw _ code).keeps.trans (State.useP_keepsLaw _ _ _)
  · exact (State.takeFlag_sameLaw _ code).keeps

theorem State.conversionComplete_keepsLaw (code : Code) (s : State) : s.KeepsLaw (s.conversionComplete code) := by
  unfold State.conversionComplete
  split
  · exact (s.sameLaw_of_press { s.press with converting := false }).keeps.trans (State.takeCode_keepsLaw code _)
  · exact .refl s

end Sys2Proof.Machine
end

section
/-! PROOFS. The associator, the locator and run control keep the channels, the open event and the hit list lawful (R46,
R53, R54, R65 to R79, R105 to R108, R152 to R154, R160 to R163); every command does. -/

namespace Sys2Proof.Machine

/-! ### The first waiting entry (R46, R53) -/

/-- The entry e is the first of the list that is not taken. -/
def FirstNotTaken (l : List Entry) (e : Entry) : Prop := l.find? (fun x => !x.taken) = some e

theorem firstNotTaken_iff {l : List Entry} {e : Entry} :
    FirstNotTaken l e ↔ e.taken = false ∧ ∃ pre post, l = pre ++ e :: post ∧ ∀ x ∈ pre, x.taken = true := by
  simp [FirstNotTaken, List.find?_eq_some_iff_append]

theorem State.firstWaiting_eq_some (s : State) (e : Entry) :
    s.firstWaiting = some e ↔ FirstNotTaken s.hitList e ∧ s.settled e.record.arrival = true := by
  unfold State.firstWaiting FirstNotTaken
  cases s.hitList.find? (fun x => !x.taken) with
  | none => simp
  | some x =>
    by_cases settled : s.settled x.record.arrival = true
    · simp only [settled, if_true, Option.some.injEq]
      exact ⟨fun h => ⟨h, h ▸ settled⟩, And.left⟩
    · simp only [settled, if_false, Option.some.injEq, Bool.false_eq_true, reduceCtorEq, false_iff]
      exact fun h => settled (h.1 ▸ h.2)

theorem State.settled_iff (s : State) (a : Nat) : s.settled a = true ↔ s.Past a := by
  rw [← s.past_iff]
  unfold State.settled
  cases s.horizon <;> simp

theorem takeFirst_append {pre post : List Entry} {e : Entry} (taken : ∀ x ∈ pre, x.taken = true)
    (waits : e.taken = false) : takeFirst (pre ++ e :: post) = pre ++ { e with taken := true } :: post := by
  induction pre with
  | nil => simp [takeFirst, waits]
  | cons x pre ih =>
    rw [List.forall_mem_cons] at taken
    simp [takeFirst, taken.1, ih taken.2]

theorem dropFirst_append {pre post : List Entry} {e : Entry} (taken : ∀ x ∈ pre, x.taken = true)
    (waits : e.taken = false) : dropFirst (pre ++ e :: post) = pre ++ post := by
  induction pre with
  | nil => simp [dropFirst, waits]
  | cons x pre ih =>
    rw [List.forall_mem_cons] at taken
    simp [dropFirst, taken.1, ih taken.2]

theorem dropFirst_filter_taken (l : List Entry) : (dropFirst l).filter (·.taken) = l.filter (·.taken) := by
  induction l with
  | nil => rfl
  | cons x l ih =>
    simp only [dropFirst]
    split
    · simp only [List.filter_cons, ih]
    · next waits => simp [waits]

theorem takeFirst_records (l : List Entry) : (takeFirst l).map (·.record) = l.map (·.record) := by
  induction l with
  | nil => rfl
  | cons x l ih =>
    simp only [takeFirst]
    split
    · simp only [List.map_cons, ih]
    · rfl

/-! ### The list and the events -/

/-- What changes the list, the associator and the locator alone keeps the law where the events and the list stay lawful.
-/
theorem State.SameChannels.keepsLaw {s t : State} (same : s.SameChannels t) (events : s.EventsLegal → t.EventsLegal)
    (list : s.ListLegal → t.ListLegal) : s.KeepsLaw t := ⟨same.legal, fun _ => events, fun _ => list⟩

/-- Entries that leave the list leave it lawful. -/
theorem State.ListLegal.sublist {s t : State} (l : s.ListLegal) (sub : t.hitList.Sublist s.hitList)
    (past : ∀ a, s.Past a → t.Past a) : t.ListLegal where
  order := l.order.sublist sub
  front := l.front.sublist sub
  settled e he taken := by
    rw [State.past_iff]
    exact past _ ((s.past_iff _).mp (l.settled e (sub.subset he) taken))

/-- The first waiting entry of a settled arrival, once taken, leaves the list lawful (R52, R53). -/
theorem State.ListLegal.takeFirst {s t : State} (l : s.ListLegal) {e : Entry} (first : FirstNotTaken s.hitList e)
    (settled : s.Past e.record.arrival) (is : t.hitList = takeFirst s.hitList) (past : ∀ a, s.Past a → t.Past a) :
    t.ListLegal := by
  have order : (t.hitList.map (·.record)).Pairwise fun a b => a.arrival < b.arrival ∨
      (a.arrival = b.arrival ∧ a.channel ≤ b.channel) := by
    rw [is, takeFirst_records, List.pairwise_map]
    exact l.order
  obtain ⟨waits, pre, post, whole, taken⟩ := firstNotTaken_iff.mp first
  rw [whole, takeFirst_append taken waits] at is
  refine ⟨List.pairwise_map.mp order, ?_, fun x hx isTaken => ?_⟩
  · have front := l.front
    rw [whole, List.pairwise_append, List.pairwise_cons] at front
    obtain ⟨ahead, ⟨-, behind⟩, -⟩ := front
    rw [is, List.pairwise_append, List.pairwise_cons]
    exact ⟨ahead, ⟨fun _ _ _ => rfl, behind⟩, fun a ha _ _ _ => taken a ha⟩
  · rw [State.past_iff]
    rw [is, List.mem_append, List.mem_cons] at hx
    rcases hx with hx | rfl | hx
    · exact past _ ((s.past_iff _).mp (l.settled x (by simp [whole, hx]) isTaken))
    · exact past _ settled
    · exact past _ ((s.past_iff _).mp (l.settled x (by simp [whole, hx]) isTaken))

/-- The first waiting entry joins the members (R46, R65). -/
theorem State.taken_takeFirst {s t : State} {e : Entry} (first : FirstNotTaken s.hitList e)
    (is : t.hitList = Machine.takeFirst s.hitList) : t.taken.Perm (e.record :: s.taken) := by
  obtain ⟨waits, pre, post, whole, taken⟩ := firstNotTaken_iff.mp first
  unfold State.taken
  rw [is, whole, takeFirst_append taken waits]
  simp [waits]

/-- The entry handed over leaves the list (R54). -/
theorem State.releaseEntry_keepsLaw {s : State} {e : Entry} (first : FirstNotTaken s.hitList e) (r : HitRec)
    (why : LoneReason) : s.KeepsLaw (s.releaseEntry r why) := by
  have same : s.SameChannels { s with hitList := dropFirst s.hitList } := { State.SameChannels.refl s with }
  have taken : State.taken { s with hitList := dropFirst s.hitList } = s.taken := by
    simp only [State.taken, dropFirst_filter_taken]
  refine (same.keepsLaw (fun l => ?_) fun l => l.sublist (dropFirst_sublist _) fun _ => same.past).trans
    (State.lone_sameLaw _ r why).keeps
  refine ⟨fun c => taken.trans (l.closed c), by rw [taken]; exact l.members, by rw [taken]; exact l.channels,
    by rw [taken]; exact l.window, l.number, fun still => ?_⟩
  obtain ⟨empty, -⟩ := l.still still
  simp [FirstNotTaken, empty] at first

/-- An entry decided with no event open (R66). -/
theorem State.decideClosed_keepsLaw {s : State} {e : Entry} (first : FirstNotTaken s.hitList e)
    (settled : s.Past e.record.arrival) (closed : s.assoc.openEvent = none) : s.KeepsLaw (s.decideClosed e.record) := by
  unfold State.decideClosed
  split
  · exact State.releaseEntry_keepsLaw first _ _
  · split
    · exact State.releaseEntry_keepsLaw first _ _
    · refine State.SameChannels.keepsLaw { State.SameChannels.refl s with } (fun l => ?_)
        fun l => l.takeFirst first settled rfl fun _ p => p
      have joined := fun t is => State.taken_takeFirst (t := t) first is
      rw [l.closed closed] at joined
      refine ⟨fun c => (nomatch c), ?_, ?_, fun o is r hr => ?_, l.number, fun still => ?_⟩
      · rw [(joined _ rfl).length_eq]; simp
      · rw [((joined _ rfl).map _).nodup_iff]; simp
      · cases is
        rw [(joined _ rfl).mem_iff, List.mem_singleton] at hr
        rw [hr]
        exact Nat.le_add_right _ _
      · obtain ⟨empty, -⟩ := l.still still
        simp [FirstNotTaken, empty] at first

/-- An entry decided within the window of the open event (R68). -/
theorem State.decideOpen_keepsLaw {s : State} {e : Entry} {o : OpenEvent} (first : FirstNotTaken s.hitList e)
    (settled : s.Past e.record.arrival) (opened : s.assoc.openEvent = some o)
    (within : e.record.arrival ≤ o.windowEnd) : s.KeepsLaw (s.decideOpen e.record) := by
  unfold State.decideOpen
  split
  · exact State.releaseEntry_keepsLaw first _ _
  · next single =>
    split
    · exact State.releaseEntry_keepsLaw first _ _
    · next room =>
      split
      · exact State.releaseEntry_keepsLaw first _ _
      · refine State.SameChannels.keepsLaw { State.SameChannels.refl s with } (fun l => ?_)
          fun l => l.takeFirst first settled rfl fun _ p => p
        have joined := fun t is => State.taken_takeFirst (t := t) first is
        refine ⟨fun c => ?_, ?_, ?_, fun o' is r hr => ?_, l.number, fun still => ?_⟩
        · exact nomatch opened.symm.trans c
        · rw [(joined _ rfl).length_eq]
          exact Nat.not_le.mp room
        · rw [((joined _ rfl).map _).nodup_iff, List.map_cons, List.nodup_cons]
          refine ⟨fun again => single ?_, l.channels⟩
          obtain ⟨m, hm, same⟩ := List.mem_map.mp again
          exact List.any_eq_true.mpr ⟨m, hm, by simp [same]⟩
        · cases opened.symm.trans is
          rcases List.mem_cons.mp ((joined _ rfl).mem_iff.mp hr) with rfl | hr
          · exact within
          · exact l.window o opened r hr
        · obtain ⟨empty, -⟩ := l.still still
          simp [FirstNotTaken, empty] at first

/-! ### The close of an event (R72 to R79) -/

theorem State.routeEvent_sameChannels (s : State) (e : EventRec) (first : HitRec) (ms : List HitRec) :
    s.SameChannels (s.routeEvent e first ms) := by
  unfold State.routeEvent
  dsimp only
  split <;> exact { State.SameChannels.refl s with }

theorem State.closeEvent_sameChannels (s : State) (o : OpenEvent) (first : HitRec) (ms : List HitRec) :
    s.SameChannels (s.closeEvent o first ms) := by
  have numbered : s.SameChannels (s.numberEvent o) := { State.SameChannels.refl s with }
  unfold State.closeEvent
  dsimp only
  split
  · exact numbered.trans (State.report_sameLaw _ _).toSameChannels
  · exact numbered.trans (State.routeEvent_sameChannels _ _ _ _)

theorem State.close_sameChannels (s : State) (o : OpenEvent) : s.SameChannels (s.close o) := by
  have cleared : s.SameChannels { s with
      hitList := s.hitList.filter fun e => !e.taken
      assoc := { s.assoc with openEvent := none } } := { State.SameChannels.refl s with }
  unfold State.close
  dsimp only
  split
  · exact cleared
  · exact cleared.trans (State.lone_sameLaw _ _ _).toSameChannels
  · exact cleared.trans (State.closeEvent_sameChannels _ _ _ _)

theorem State.routeEvent_hitList (s : State) (e : EventRec) (first : HitRec) (ms : List HitRec) :
    (s.routeEvent e first ms).hitList = s.hitList := by
  unfold State.routeEvent
  dsimp only
  split <;> rfl

theorem State.routeEvent_assoc (s : State) (e : EventRec) (first : HitRec) (ms : List HitRec) :
    (s.routeEvent e first ms).assoc = s.assoc := by
  unfold State.routeEvent
  dsimp only
  split <;> rfl

theorem State.closeEvent_hitList (s : State) (o : OpenEvent) (first : HitRec) (ms : List HitRec) :
    (s.closeEvent o first ms).hitList = s.hitList := by
  unfold State.closeEvent
  dsimp only
  split
  · rfl
  · exact State.routeEvent_hitList _ _ _ _

theorem State.closeEvent_assoc (s : State) (o : OpenEvent) (first : HitRec) (ms : List HitRec) :
    (s.closeEvent o first ms).assoc = (s.numberEvent o).assoc := by
  unfold State.closeEvent
  dsimp only
  split
  · rfl
  · exact State.routeEvent_assoc _ _ _ _

/-- At a close the members leave the list (R54). -/
theorem State.close_hitList (s : State) (o : OpenEvent) :
    (s.close o).hitList = s.hitList.filter fun e => !e.taken := by
  unfold State.close
  dsimp only
  split
  · rfl
  · rfl
  · exact State.closeEvent_hitList _ _ _ _

theorem State.close_taken (s : State) (o : OpenEvent) : (s.close o).taken = [] := by
  simp [State.taken, State.close_hitList]

theorem State.close_openEvent (s : State) (o : OpenEvent) : (s.close o).assoc.openEvent = none := by
  unfold State.close
  dsimp only
  split
  · rfl
  · rfl
  · rw [State.closeEvent_assoc]
    rfl

/-- A close keeps the event number, or counts it up to its limit (R75). -/
theorem State.close_eventNo (s : State) (o : OpenEvent) :
    (s.close o).assoc.eventNo = s.assoc.eventNo ∨ (s.close o).assoc.eventNo = min 4294967295 (s.assoc.eventNo + 1) := by
  unfold State.close
  dsimp only
  split
  · exact .inl rfl
  · exact .inl rfl
  · rw [State.closeEvent_assoc]
    exact .inr rfl

theorem State.close_keepsLaw {s : State} {o : OpenEvent} (opened : s.assoc.openEvent = some o) :
    s.KeepsLaw (s.close o) := by
  have same := s.close_sameChannels o
  refine same.keepsLaw (fun l => ?_) fun l => l.sublist ?_ fun _ => same.past
  · refine ⟨fun _ => s.close_taken o, ?_, ?_, ?_, ?_, fun still => ?_⟩
    · simp [State.close_taken]
    · simp [State.close_taken]
    · simp [State.close_taken]
    · have number := l.number
      rcases s.close_eventNo o with e | e <;> rw [e] <;> omega
    · rw [same.run] at still
      exact nomatch opened.symm.trans (l.still still).2.1
  · rw [State.close_hitList]
    exact List.filter_sublist

/-- A close leaves the first waiting entry first (R69). -/
theorem State.close_first {s : State} {e : Entry} (first : FirstNotTaken s.hitList e) (o : OpenEvent) :
    FirstNotTaken (s.close o).hitList e := by
  rw [State.close_hitList]
  unfold FirstNotTaken at *
  rw [List.find?_filter]
  simpa using first

theorem State.handOver_keepsLaw (s : State) : s.KeepsLaw s.handOver := by
  unfold State.handOver
  split
  · exact .refl s
  · next e waits =>
    obtain ⟨first, settled⟩ := (s.firstWaiting_eq_some e).mp waits
    rw [s.settled_iff] at settled
    refine State.KeepsLaw.trans ?_ (State.moveTo_sameLaw _ _).keeps
    unfold State.decideEntry
    split
    · next closed => exact State.decideClosed_keepsLaw first settled closed
    · next o opened =>
      split
      · next within => exact State.decideOpen_keepsLaw first settled opened within
      · exact (State.close_keepsLaw opened).trans (State.decideClosed_keepsLaw (State.close_first first o)
          ((s.close_sameChannels o).past settled) (s.close_openEvent o))

theorem State.closeByHorizon_keepsLaw (s : State) : s.KeepsLaw s.closeByHorizon := by
  unfold State.closeByHorizon
  split
  · exact .refl s
  · next o opened =>
    split
    · exact (State.close_keepsLaw opened).trans (State.moveTo_sameLaw _ _).keeps
    · exact .refl s

/-! ### The locator (R105, R107) -/

theorem State.locationStart_keepsLaw (s : State) : s.KeepsLaw s.locationStart := by
  unfold State.locationStart
  split
  · next e rest g free queued loaded =>
    refine State.SameChannels.keepsLaw { State.SameChannels.refl s with } (fun l => ?_)
      fun l => l.of_past rfl fun _ p => p
    refine ⟨l.closed, l.members, l.channels, l.window, l.number, fun still => ?_⟩
    obtain ⟨-, -, empty, -⟩ := l.still still
    exact nomatch queued.symm.trans empty
  · exact .refl s

theorem State.freeLocator_sameLaw (s : State) (b : Locating) : s.SameLaw (s.freeLocator b) := by
  unfold State.freeLocator
  dsimp only
  split <;> exact { State.SameLaw.refl s with busy := fun _ => rfl }

theorem State.locationEnd_sameLaw (s : State) : s.SameLaw s.locationEnd := by
  unfold State.locationEnd
  split
  · exact .refl s
  · next b _ =>
    have freed := (s.freeLocator_sameLaw b).trans (State.report_sameLaw _ (.event b.result))
    split
    · dsimp only
      split
      · exact freed.trans (State.accumulate_sameLaw _ _ _ _ _)
      · exact freed
    · exact .refl s

/-! ### Run control (R152 to R163) -/

/-- The drain has ended: FROZEN, with nothing left (R160). -/
theorem State.drainComplete_keepsLaw (s : State) : s.KeepsLaw s.drainComplete := by
  unfold State.drainComplete
  split
  · next drained =>
    obtain ⟨freezing, empty⟩ := drained
    simp only [State.drained, Bool.and_eq_true, Bool.not_eq_true', List.isEmpty_iff, Option.isNone_iff_eq_none] at empty
    obtain ⟨⟨⟨⟨⟨noHit, noOffer⟩, noEntry⟩, closed⟩, noQueue⟩, free⟩ := empty
    refine State.KeepsLaw.trans (t := s.setRun .frozen) ?_ (State.notify_sameLaw _ _).keeps
    have noHits (c : Chan) (h : Hit) : (s.ch c).state ≠ .hit h := fun e => by
      have := s.anyHit_iff.mpr ⟨c, h, e⟩
      simp [noHit] at this
    refine ⟨fun l => (State.channelsLegal_iff _).mpr ⟨fun c => ?_, ?_, ?_, ?_, ?_⟩, fun l e => ?_, fun l k => ?_⟩
    · have legal := l.each c
      exact legal.of_state rfl rfl rfl (fun k e => by have := legal.lockout k e; simp [freezing] at this)
        (fun h e => absurd e (noHits c h)) legal.testing
    · exact fun waits => absurd noOffer waits
    · simp only [State.setRun, reduceCtorEq, false_or, iff_true]
      exact l.freeze.mpr (.inl freezing)
    · exact fun no => nomatch no
    · intro ck e
      exact nomatch e.symm.trans (l.check freezing)
    · exact ⟨e.closed, e.members, e.channels, e.window, e.number, fun _ => ⟨noEntry, closed, noQueue, free⟩⟩
    · refine ⟨k.order, k.front, fun x hx _ => ?_⟩
      have hx' : x ∈ s.hitList := hx
      simp [noEntry] at hx'
  · exact .refl s

end Sys2Proof.Machine
end

section
/-! PROOFS. Armings, resets and requests keep the channels, the open event and the hit list lawful (R152 to R154, R162,
R163); every command does. -/

namespace Sys2Proof.Machine

/-! ### Armings and resets (R153, R154, R162, R163) -/

/-- Run values set back: nothing is held, listed or located, in IDLE or ARMED with no check in progress. -/
structure State.SetBack (t : State) : Prop where
  run : t.ctl.run = .idle ∨ t.ctl.run = .armed
  freeze : t.ctl.freeze = none
  check : t.chk.check = none
  hitList : t.hitList = []
  offers : t.offers = []
  openEvent : t.assoc.openEvent = none
  queue : t.loc.queue = []
  busy : t.loc.busy = none

theorem State.SetBack.keepsLaw {s t : State} (back : t.SetBack)
    (chans : s.ChannelsLegal → ∀ c, (t.ch c).Legal t.ctl.run false)
    (number : s.EventsLegal → 1 ≤ t.assoc.eventNo ∧ t.assoc.eventNo ≤ 4294967295) : s.KeepsLaw t := by
  have noClaim (c : Chan) : t.claimed c = false := by simp [State.claimed, back.check]
  have noTaken : t.taken = [] := by simp [State.taken, back.hitList]
  refine ⟨fun l => (State.channelsLegal_iff _).mpr ⟨fun c => noClaim c ▸ chans l c, ?_, ?_, fun _ => back.check, ?_⟩,
    fun _ e => ⟨fun _ => noTaken, by simp [noTaken], by simp [noTaken], by simp [noTaken], number e, fun _ =>
      ⟨back.hitList, back.openEvent, back.queue, back.busy⟩⟩, fun _ _ => ⟨?_, ?_, ?_⟩⟩
  · exact fun waits => absurd back.offers waits
  · rw [back.freeze]
    rcases back.run with e | e <;> simp [e]
  · intro ck e
    rw [back.check] at e
    cases e
  all_goals rw [back.hitList]; simp

/-- The number of the first event (R75). -/
theorem one_isNumber : 1 ≤ 1 ∧ 1 ≤ 4294967295 := by decide

/-- A channel set back is OFF, in FAULT or in QUIET, by its enable and its lane (R43). -/
theorem Channel.restart_legal (x : Channel) (run : RunState) (claimed : Bool) : x.restart.Legal run claimed := by
  have state : x.restart.state = if x.cfg.enable then
      match x.lane with
      | .good => .quiet
      | .lost => .fault
    else .off := rfl
  have cfg : x.restart.cfg = x.cfg := rfl
  have lane : x.restart.lane = x.lane := rfl
  cases on : x.cfg.enable with
  | false =>
    rw [on, if_neg Bool.false_ne_true] at state
    exact ⟨by simp [state, cfg, on], by simp [state, cfg, on], by simp [state], by simp [state], by simp [state]⟩
  | true =>
    rw [on, if_pos rfl] at state
    cases good : x.lane with
    | good =>
      rw [good] at state
      exact Channel.legal_of_idle ⟨cfg ▸ on, lane ▸ good⟩ (.inl state)
    | lost =>
      rw [good] at state
      exact ⟨by simp [state, cfg, on], by simp [state, cfg, lane, on, good], by simp [state], by simp [state],
        by simp [state]⟩

theorem State.restart_ch (s : State) (run : RunState) (c : Chan) : (s.restart run).ch c = (s.ch c).restart := by
  simp [State.ch, State.restart]

theorem State.armFresh_keepsLaw {s : State} (free : s.chk.check = none) : s.KeepsLaw s.armFresh := by
  refine State.KeepsLaw.trans (t := s.restart .armed) ?_ (State.notify_sameLaw _ _).keeps
  refine State.SetBack.keepsLaw ⟨.inr rfl, rfl, free, rfl, rfl, rfl, rfl, rfl⟩ (fun _ c => ?_)
    fun _ => one_isNumber
  rw [State.restart_ch]
  exact Channel.restart_legal _ _ _

theorem State.resume_ch (s : State) (c : Chan) : s.resume.ch c = (s.ch c).clearHits := by
  simp [State.ch, State.resume]

theorem State.resume_keepsLaw {s : State} (free : s.chk.check = none) : s.KeepsLaw s.resume := by
  refine State.SetBack.keepsLaw ⟨.inr rfl, rfl, free, rfl, rfl, rfl, rfl, rfl⟩ (fun l c => ?_) fun e => e.number
  rw [State.resume_ch]
  refine (l.each c).of_state rfl rfl rfl (fun _ _ => rfl) (fun _ _ => .inl rfl) fun testing => ?_
  have claim := (l.each c).testing testing
  simp [State.claimed, free] at claim

theorem State.armResume_keepsLaw {s : State} (free : s.chk.check = none) : s.KeepsLaw s.armResume := by
  have told := (State.resume_keepsLaw free).trans (State.notify_sameLaw s.resume (.run .armResume s.resume.ctl.run
    s.ctl.run s.resume.tick s.resume.assoc.eventNo .plain)).keeps
  unfold State.armResume State.tellRun
  dsimp only
  split
  · exact told.trans (State.enterFreezing_keepsLaw rfl _ _ _)
  · exact told

theorem State.resetRun_keepsLaw (s : State) : s.KeepsLaw s.resetRun := by
  refine State.KeepsLaw.trans (t := { s.lastCuts.takeOffers.restart .idle with chk := { s.chk with check := none } }) ?_
    (State.notify_sameLaw _ _).keeps
  refine State.SetBack.keepsLaw ⟨.inl rfl, rfl, rfl, rfl, rfl, rfl, rfl, rfl⟩ (fun _ c => ?_)
    fun _ => one_isNumber
  change ((s.lastCuts.takeOffers.restart .idle).ch c).Legal .idle false
  rw [State.restart_ch]
  exact Channel.restart_legal _ _ _

theorem Channel.reset_legal (run : RunState) (claimed : Bool) : Channel.reset.Legal run claimed := by
  have off : Channel.reset.state = .off := rfl
  have disabled : Channel.reset.cfg.enable = false := rfl
  exact ⟨by simp [off, disabled], by simp [off, disabled], by simp [off], by simp [off], by simp [off]⟩

theorem State.fullReset_keepsLaw (s : State) : s.KeepsLaw s.fullReset := by
  refine State.SetBack.keepsLaw ⟨.inl rfl, rfl, rfl, rfl, rfl, rfl, rfl, rfl⟩ (fun _ c => ?_)
    fun _ => one_isNumber
  have ch : s.fullReset.ch c = Channel.reset := Vector.getElem_replicate c.isLt
  rw [ch]
  exact Channel.reset_legal _ _

theorem State.fullResetEnd_keepsLaw (baud : BitVec 2) (s : State) : s.KeepsLaw (s.fullResetEnd baud) := by
  unfold State.fullResetEnd State.tellRun
  refine State.KeepsLaw.trans ?_ (State.notify_sameLaw _ _).keeps
  refine State.SetBack.keepsLaw ⟨.inl rfl, rfl, rfl, rfl, rfl, rfl, rfl, rfl⟩ (fun _ c => ?_)
    fun _ => one_isNumber
  have ch : State.defaults.ch c = Channel.reset := Vector.getElem_replicate c.isLt
  change (State.defaults.ch c).Legal .idle false
  rw [ch]
  exact Channel.reset_legal _ _

/-! ### The rules of the requests -/

/-- The rule of a request keeps the law. -/
def RuleKeepsLaw (rule : List Byte → State → Answer) : Prop := ∀ payload (s : State), s.KeepsLaw (rule payload s).1

theorem keepsLaw_of_noPayload {rule : List Byte → State → Answer} {act : State → Answer}
    (is : rule = noPayload act) (asked : ∀ s : State, s.KeepsLaw (act s).1) : RuleKeepsLaw rule := by
  intro payload s
  rw [is]
  match payload with
  | [] => exact asked s
  | _ :: _ => exact .refl s

theorem State.handle_keepsLaw {rule : List Byte → State → Answer} (keeps : RuleKeepsLaw rule)
    (isRow : Frame → Bool) (s : State) : s.KeepsLaw (State.handle isRow rule s) := by
  rcases State.handle_cases isRow rule s with ⟨-, e⟩ | ⟨f, -, e⟩
  · rw [e]; exact .refl s
  · rw [e]; exact (s.freeSlot_sameLaw.keeps.trans (keeps _ _)).trans (State.answer_sameLaw _ _ _ _).keeps

theorem State.clearFlags_sameLaw (s : State) : s.SameLaw s.clearFlags :=
  { State.SameLaw.refl s with
    chans := fun c => by
      have : s.clearFlags.ch c = { s.ch c with faultChanged := false } := by simp [State.ch, State.clearFlags]
      rw [this]
      exact ⟨rfl, rfl, .inl rfl⟩ }

theorem identifyRule_keepsLaw : RuleKeepsLaw identifyRule := keepsLaw_of_noPayload rfl .refl

theorem statusRule_keepsLaw : RuleKeepsLaw statusRule := keepsLaw_of_noPayload rfl fun s => s.clearFlags_sameLaw.keeps

theorem resetRunRule_keepsLaw : RuleKeepsLaw resetRunRule := keepsLaw_of_noPayload rfl State.resetRun_keepsLaw

theorem alarmClearRule_keepsLaw : RuleKeepsLaw alarmClearRule :=
  keepsLaw_of_noPayload rfl fun s => (s.sameLaw_of_map _).keeps

theorem mapClearRule_keepsLaw : RuleKeepsLaw mapClearRule :=
  keepsLaw_of_noPayload rfl fun s => by
    split
    · exact .refl s
    · exact (s.sameLaw_of_map _).keeps

theorem zoneReadRule_keepsLaw : RuleKeepsLaw zoneReadRule := keepsLaw_of_noPayload rfl .refl

theorem stopRule_keepsLaw : RuleKeepsLaw stopRule :=
  keepsLaw_of_noPayload rfl fun s => by
    split
    · next armed => exact State.enterFreezing_keepsLaw armed _ _ _
    · exact .refl s

theorem checkAbortRule_keepsLaw : RuleKeepsLaw checkAbortRule :=
  keepsLaw_of_noPayload rfl fun s => by split <;> exact .refl s

theorem channelSetRule_keepsLaw : RuleKeepsLaw channelSetRule := by
  intro payload s
  unfold channelSetRule
  split
  · split
    · unfold channelSetItems
      split
      · exact .refl s
      · split
        · exact .refl s
        · split
          · exact .refl s
          · split
            · exact .refl s
            · exact .foldl (State.setChannel_keepsLaw _) _ _
    · exact .refl s
  · exact .refl s

theorem channelGetRule_keepsLaw : RuleKeepsLaw channelGetRule := by
  intro payload s
  unfold channelGetRule
  (repeat' split) <;> exact .refl s

theorem pressureSetRule_keepsLaw : RuleKeepsLaw pressureSetRule := by
  intro payload s
  unfold pressureSetRule pressureStore
  (repeat' split) <;> exact (s.sameLaw_of_press _).keeps

/-- A geometry and a map loaded leave the queue and the location in flight alone (R87). -/
theorem State.sameLaw_of_grid (s : State) (g : Option Geometry) (v : Nat) (m : ActMap) :
    s.SameLaw { s with loc := { s.loc with geom := g, v := v }, map := m } := { State.SameLaw.refl s with }

theorem geometrySetRule_keepsLaw : RuleKeepsLaw geometrySetRule := by
  intro payload s
  unfold geometrySetRule geometryStore
  (repeat' split) <;> exact (s.sameLaw_of_grid _ _ _).keeps

theorem sensorPlaceRule_keepsLaw : RuleKeepsLaw sensorPlaceRule := by
  intro payload s
  unfold sensorPlaceRule sensorPlaceStore
  (repeat' split) <;> exact (s.sameLaw_of_grid _ _ _).keeps

theorem sensorUnplaceRule_keepsLaw : RuleKeepsLaw sensorUnplaceRule := by
  intro payload s
  unfold sensorUnplaceRule sensorUnplaceStore
  (repeat' split) <;> exact (s.sameLaw_of_grid _ _ _).keeps

theorem windowSetRule_keepsLaw : RuleKeepsLaw windowSetRule := by
  intro payload s
  unfold windowSetRule windowStore
  (repeat' split) <;> exact (s.sameLaw_of_grid _ _ _).keeps

theorem zoneSetRule_keepsLaw : RuleKeepsLaw zoneSetRule := by
  intro payload s
  unfold zoneSetRule zoneStore
  (repeat' split) <;> exact (s.sameLaw_of_grid _ _ _).keeps

theorem associationSetRule_keepsLaw : RuleKeepsLaw associationSetRule := by
  intro payload s
  unfold associationSetRule associationStore
  (repeat' split) <;> exact State.SameLaw.keeps { State.SameLaw.refl s with }

theorem clusterSetRule_keepsLaw : RuleKeepsLaw clusterSetRule := by
  intro payload s
  unfold clusterSetRule clusterStore
  (repeat' split) <;> exact (s.sameLaw_of_map _).keeps

theorem ruptureSetRule_keepsLaw : RuleKeepsLaw ruptureSetRule := by
  intro payload s
  unfold ruptureSetRule ruptureStore
  (repeat' split) <;> exact State.SameLaw.keeps { State.SameLaw.refl s with }

theorem reportSetRule_keepsLaw : RuleKeepsLaw reportSetRule := by
  intro payload s
  unfold reportSetRule reportStore
  (repeat' split) <;> exact (s.sameLaw_of_rep _).keeps

/-- Where ARM passes its tests, no check is in progress (R152). -/
theorem State.free_of_armTest {s : State} (passed : s.armTest = none) : s.chk.check = none := by
  unfold State.armTest at passed
  (repeat' split at passed) <;> simp_all

theorem armRule_keepsLaw : RuleKeepsLaw armRule := by
  intro payload s
  unfold armRule
  split
  · split
    · exact .refl s
    · next passed =>
      split
      · exact State.armFresh_keepsLaw (State.free_of_armTest passed)
      · exact .refl s
  · exact .refl s

theorem armResumeRule_keepsLaw : RuleKeepsLaw armResumeRule := by
  intro payload s
  unfold armResumeRule
  split
  · exact .refl s
  · next passed =>
    split
    · exact .refl s
    · exact State.armResume_keepsLaw (State.free_of_armTest passed)

theorem mapReadRule_keepsLaw : RuleKeepsLaw mapReadRule := by
  intro payload s
  unfold mapReadRule
  (repeat' split) <;> exact .refl s

/-- Where a SHORT or LONG check passes its tests, no check is in progress and the run is not in FREEZING (R133). -/
theorem State.free_of_pulseCheckTest {s : State} (passed : s.pulseCheckTest = none) :
    s.chk.check = none ∧ s.ctl.run ≠ .freezing := by
  unfold State.pulseCheckTest at passed
  (repeat' split at passed) <;> simp_all

/-- Where a PATTERN check passes its tests, no check is in progress and the run is not in FREEZING (R133). -/
theorem State.free_of_patternCheckTest {s : State} (passed : s.patternCheckTest = none) :
    s.chk.check = none ∧ s.ctl.run ≠ .freezing := by
  unfold State.patternCheckTest at passed
  (repeat' split at passed) <;> simp_all

theorem checkStartShortRule_keepsLaw : RuleKeepsLaw checkStartShortRule := by
  intro payload s
  unfold checkStartShortRule
  split
  · split
    · split
      · exact .refl s
      · next passed =>
        obtain ⟨free, run⟩ := State.free_of_pulseCheckTest passed
        unfold checkShort
        (repeat' split) <;> first | exact .refl s | exact State.beginCheck_keepsLaw free run rfl rfl _
    · exact .refl s
  · exact .refl s

theorem checkStartLongRule_keepsLaw : RuleKeepsLaw checkStartLongRule := by
  intro payload s
  unfold checkStartLongRule
  split
  · split
    · exact .refl s
    · next passed =>
      obtain ⟨free, run⟩ := State.free_of_pulseCheckTest passed
      unfold checkLong
      (repeat' split) <;> first | exact .refl s | exact State.beginCheck_keepsLaw free run rfl rfl _
  · exact .refl s

theorem checkStartPatternRule_keepsLaw : RuleKeepsLaw checkStartPatternRule := by
  intro payload s
  unfold checkStartPatternRule
  split
  · split
    · exact .refl s
    · next passed =>
      obtain ⟨free, run⟩ := State.free_of_patternCheckTest passed
      unfold checkPattern
      (repeat' split) <;> first | exact .refl s | exact State.beginCheck_keepsLaw free run rfl rfl _
  · exact .refl s

theorem State.sameLaw_of_patterns (s : State) (p : Vector (List Sample) 4) :
    s.SameLaw { s with chk := { s.chk with patterns := p } } := State.sameLaw_of_chk rfl

theorem patternLoadRule_keepsLaw : RuleKeepsLaw patternLoadRule := by
  intro payload s
  unfold patternLoadRule patternStore
  (repeat' split) <;> first | exact .refl s | exact (s.sameLaw_of_patterns _).keeps

theorem baselineReadRule_keepsLaw : RuleKeepsLaw baselineReadRule := by
  intro payload s
  unfold baselineReadRule
  (repeat' split) <;> exact .refl s

theorem baselineLatestRule_keepsLaw : RuleKeepsLaw baselineLatestRule := fun _ => .refl

theorem unknownKindRule_keepsLaw : RuleKeepsLaw unknownKindRule := fun _ => .refl

theorem State.checkAbort_keepsLaw (s : State) : s.KeepsLaw s.checkAbort := by
  have handled := s.handle_keepsLaw checkAbortRule_keepsLaw (kindIs 0x16#8)
  unfold State.checkAbort
  split
  · exact .refl s
  · split
    · exact handled.trans (State.abortCheck_keepsLaw _ _)
    · exact handled

/-! ### Every command -/

/-- What a step of the part leads to keeps the law if its meaning does (R163). -/
theorem live_keepsLaw {f : State → State} {s t : State} (h : s.KeepsLaw (f s)) (ran : live f s = .next t) :
    s.KeepsLaw t := by
  cases ran
  split
  · exact .refl s
  · exact h

/-- Every command keeps the law. -/
theorem exec_keepsLaw {i : Instr} {s t : State} (ran : exec i s = .next t) : s.KeepsLaw t := by
  have request {rule : List Byte → State → Answer} (keeps : RuleKeepsLaw rule) {isRow : Frame → Bool}
      (ran : live (State.handle isRow rule) s = .next t) : s.KeepsLaw t :=
    live_keepsLaw (s.handle_keepsLaw keeps isRow) ran
  cases i with
  | tick => exact live_keepsLaw s.tickStep_keepsLaw ran
  | timeLimit => exact live_keepsLaw s.timeLimit_keepsLaw ran
  | pressurePeriod => exact live_keepsLaw s.pressurePeriod_sameLaw.keeps ran
  | conversionComplete code => exact live_keepsLaw (s.conversionComplete_keepsLaw code) ran
  | laneSample c sample => exact live_keepsLaw (s.laneSample_keepsLaw c sample) ran
  | missingFrame c => exact live_keepsLaw (s.missingFrame_keepsLaw c) ran
  | peakFixed c => exact live_keepsLaw (s.peakFixed_sameLaw c).keeps ran
  | hitEnd c => exact live_keepsLaw (s.hitEnd_keepsLaw c) ran
  | forcedEnd c => exact live_keepsLaw (s.forcedEnd_keepsLaw c) ran
  | lockoutEnd c => exact live_keepsLaw (s.lockoutEnd_keepsLaw c) ran
  | laneLost c => exact live_keepsLaw (s.laneLost_keepsLaw c) ran
  | laneRecovered c => exact live_keepsLaw (s.laneRecovered_keepsLaw c) ran
  | settlingComplete c => exact live_keepsLaw (s.settlingComplete_keepsLaw c) ran
  | noiseBlockEnd c => exact live_keepsLaw (s.noiseBlockEnd_sameLaw c).keeps ran
  | handOver => exact live_keepsLaw s.handOver_keepsLaw ran
  | closeByHorizon => exact live_keepsLaw s.closeByHorizon_keepsLaw ran
  | locationStart => exact live_keepsLaw s.locationStart_keepsLaw ran
  | locationEnd => exact live_keepsLaw s.locationEnd_sameLaw.keeps ran
  | drainComplete => exact live_keepsLaw s.drainComplete_keepsLaw ran
  | gatheringComplete => exact live_keepsLaw s.gatheringComplete_sameLaw.keeps ran
  | pulse => exact live_keepsLaw s.pulse_sameLaw.keeps ran
  | listeningWindowEnd => exact live_keepsLaw s.listeningWindowEnd_sameLaw.keeps ran
  | checkComplete => exact live_keepsLaw s.checkComplete_keepsLaw ran
  | patternOutcome c =>
    exact live_keepsLaw (f := fun s => s.patternOutcome c) (s.patternOutcome_sameLaw c).keeps ran
  | frameReceived bytes => exact live_keepsLaw (s.frameReceived_sameLaw bytes).keeps ran
  | framingError => exact live_keepsLaw s.framingError_sameLaw.keeps ran
  | truncated => exact live_keepsLaw s.truncated_sameLaw.keeps ran
  | lineBreak => exact live_keepsLaw s.lineBreak_sameLaw.keeps ran
  | lineBreakEnd => exact live_keepsLaw s.lineBreakEnd_sameLaw.keeps ran
  | hrdyAsserted level =>
    cases ran
    exact (s.hrdyChange_sameLaw level).keeps
  | frameSent => exact live_keepsLaw s.frameSent_sameLaw.keeps ran
  | ageLimit => exact live_keepsLaw s.ageLimit_sameLaw.keeps ran
  | summaryTimer => exact live_keepsLaw s.summaryTimer_sameLaw.keeps ran
  | fullReset =>
    cases ran
    exact s.fullReset_keepsLaw
  | fullResetEnd baud =>
    cases ran
    split
    · exact s.fullResetEnd_keepsLaw baud
    · exact .refl s
  | checkAbort => exact live_keepsLaw s.checkAbort_keepsLaw ran
  | identify => exact request identifyRule_keepsLaw ran
  | status => exact request statusRule_keepsLaw ran
  | resetRun => exact request resetRunRule_keepsLaw ran
  | channelSet => exact request channelSetRule_keepsLaw ran
  | channelGet => exact request channelGetRule_keepsLaw ran
  | pressureSet => exact request pressureSetRule_keepsLaw ran
  | geometrySet => exact request geometrySetRule_keepsLaw ran
  | sensorPlace => exact request sensorPlaceRule_keepsLaw ran
  | sensorUnplace => exact request sensorUnplaceRule_keepsLaw ran
  | windowSet => exact request windowSetRule_keepsLaw ran
  | zoneSet => exact request zoneSetRule_keepsLaw ran
  | associationSet => exact request associationSetRule_keepsLaw ran
  | clusterSet => exact request clusterSetRule_keepsLaw ran
  | ruptureSet => exact request ruptureSetRule_keepsLaw ran
  | reportSet => exact request reportSetRule_keepsLaw ran
  | arm => exact request armRule_keepsLaw ran
  | armResume => exact request armResumeRule_keepsLaw ran
  | stop => exact request stopRule_keepsLaw ran
  | alarmClear => exact request alarmClearRule_keepsLaw ran
  | mapClear => exact request mapClearRule_keepsLaw ran
  | mapRead => exact request mapReadRule_keepsLaw ran
  | zoneRead => exact request zoneReadRule_keepsLaw ran
  | checkStartShort => exact request checkStartShortRule_keepsLaw ran
  | checkStartLong => exact request checkStartLongRule_keepsLaw ran
  | checkStartPattern => exact request checkStartPatternRule_keepsLaw ran
  | patternLoad => exact request patternLoadRule_keepsLaw ran
  | baselineRead => exact request baselineReadRule_keepsLaw ran
  | baselineReadLatest => exact request baselineLatestRule_keepsLaw ran
  | unknownKind => exact request unknownKindRule_keepsLaw ran

end Sys2Proof.Machine

namespace Sys2Proof

open Machine

/-- Settles O58: a step is a command on the queue's rest, of which the law asks nothing, and every command keeps the
law, each by the lemma of its operation. -/
theorem stepsKeepChannelsAndEvents : Obligations.StepsKeepChannelsAndEvents := by
  intro s t stepped
  have kept : s.KeepsLaw t := by
    unfold step at stepped
    split at stepped
    · cases stepped
      exact .refl s
    · next c rest _ =>
      have waiting : s.SameLaw { s with pending := rest } := { State.SameLaw.refl s with }
      exact waiting.keeps.trans (exec_keepsLaw stepped)
  exact fun l => ⟨kept.channels l, kept.events l, kept.list l⟩

end Sys2Proof
end

section
/-! PROOFS. The report unit (10): what a notice and a record handed over become, the transmitter's choice, the bytes of
the frames, the summary, and REPORT SET. -/

namespace Sys2Proof.Machine

/-! ### Results of requests -/

/-- CLAMPED exactly where a value was clamped (R174). -/
theorem doneOr_of_iff {b : Bool} {P : Prop} [Decidable P] (h : b = true ↔ P) :
    doneOr b = if P then .clamped else .done := by
  rw [doneOr_eq]
  exact if_congr h rfl rfl

/-! ### Fields (R191) -/

@[simp] theorem fields_nil : fields [] = [] := rfl

@[simp] theorem fields_cons (f : Nat × Nat) (l : List (Nat × Nat)) : fields (f :: l) = be f.1 f.2 ++ fields l := rfl

@[simp] theorem fields_append (k l : List (Nat × Nat)) : fields (k ++ l) = fields k ++ fields l := by
  simp [fields]

theorem fields_flatMap {α : Type} (g : α → List (Nat × Nat)) (l : List α) :
    fields (l.flatMap g) = l.flatMap fun x => fields (g x) := by
  simp [fields, List.flatMap_assoc]

theorem fields_length (l : List (Nat × Nat)) : (fields l).length = (l.map Prod.fst).sum := by
  induction l with
  | nil => rfl
  | cons f l ih => simp [ih]

theorem beNat_append (bs : List Byte) (b : Byte) : beNat (bs ++ [b]) = beNat bs * 256 + b.toNat := by
  simp [beNat]

/-- A field gives its value back, most significant byte first, as far as its width holds it (R191). -/
theorem beNat_be (n v : Nat) : beNat (be n v) = v % 256 ^ n := by
  induction n generalizing v with
  | zero => simp [be, beNat, Nat.mod_one]
  | succ n ih =>
    have split : v % 256 ^ (n + 1) = v % 256 + 256 * (v / 256 % 256 ^ n) := by rw [Nat.pow_succ', Nat.mod_mul]
    rw [be, beNat_append, ih, BitVec.toNat_ofNat, split]
    omega

theorem be_one_code (code : Nat) : be 1 code = [BitVec.ofNat 8 code] := rfl

/-! ### Flags, masks and packed verdicts (R191, 11.2) -/

theorem flagBits_testBit (l : List Bool) (n : Nat) : (flagBits l).testBit n = l.getD n false := by
  induction l generalizing n with
  | nil => simp [flagBits]
  | cons b l ih =>
    have bit : b.toNat < 2 := by cases b <;> decide
    cases n with
    | zero => cases b <;> simp [flagBits, Nat.testBit_zero]
    | succ n =>
      rw [flagBits, Nat.testBit_succ, show (b.toNat + 2 * flagBits l) / 2 = flagBits l by omega, ih]
      rfl

theorem flagBits_lt (l : List Bool) : flagBits l < 2 ^ l.length := by
  induction l with
  | nil => simp [flagBits]
  | cons b l ih =>
    have bit : b.toNat < 2 := by cases b <;> decide
    rw [flagBits, List.length_cons, Nat.pow_succ]
    omega

theorem allChans_length : allChans.length = 16 := rfl

/-- Channel c stands at place c. -/
theorem allChans_getElem (c : Chan) : allChans[c.val]? = some c := by
  revert c
  decide

theorem maskOf_testBit (v : Vector Bool 16) (c : Chan) : (maskOf v).testBit c.val = v[c] := by
  rw [maskOf, flagBits_testBit, List.getD_eq_getElem?_getD, List.getElem?_map, allChans_getElem]
  rfl

theorem maskOf_lt (v : Vector Bool 16) : maskOf v < 65536 := by
  have := flagBits_lt (allChans.map fun c => v[c])
  simpa [maskOf, allChans_length] using this

theorem packPairs_div (l : List Nat) (small : ∀ v ∈ l, v < 4) (n : Nat) :
    packPairs l / 4 ^ n % 4 = l.getD n 0 := by
  induction l generalizing n with
  | nil => simp [packPairs]
  | cons v l ih =>
    rw [List.forall_mem_cons] at small
    cases n with
    | zero =>
      rw [packPairs]
      simp
      omega
    | succ n =>
      rw [packPairs, Nat.pow_succ', ← Nat.div_div_eq_div_mul, show (v + 4 * packPairs l) / 4 = packPairs l by omega,
        ih small.2]
      rfl

theorem packPairs_lt (l : List Nat) (small : ∀ v ∈ l, v < 4) : packPairs l < 4 ^ l.length := by
  induction l with
  | nil => simp [packPairs]
  | cons v l ih =>
    rw [List.forall_mem_cons] at small
    have := ih small.2
    rw [packPairs, List.length_cons, Nat.pow_succ]
    omega

theorem Verdict.code_lt (v : Verdict) : v.code < 4 := by cases v <;> decide

theorem verdictCodes_small (v : Vector Verdict 16) : ∀ k ∈ allChans.map fun c => (v[c]).code, k < 4 := by
  intro k hk
  obtain ⟨c, -, rfl⟩ := List.mem_map.mp hk
  exact Verdict.code_lt _

theorem packVerdicts_lt (v : Vector Verdict 16) : packVerdicts v < 4294967296 := by
  have := packPairs_lt _ (verdictCodes_small v)
  simpa [packVerdicts, allChans_length] using this

theorem packVerdicts_div (v : Vector Verdict 16) (c : Chan) : packVerdicts v / 4 ^ c.val % 4 = (v[c]).code := by
  rw [packVerdicts, packPairs_div _ (verdictCodes_small v), List.getD_eq_getElem?_getD, List.getElem?_map,
    allChans_getElem]
  rfl

/-! ### Notices (R181, 11.6) -/

theorem State.notify_of_room {s : State} (room : s.rep.notices.length < 16) (n : Notice) : s.notify n =
    { s with rep := Report.choose s.ctl.run s.tick { s.rep with notices := s.rep.notices ++ [n] } } := by
  have : s.rep.notices.length < Config.noticeCap := room
  simp only [State.notify, Report.notify, if_pos this]

theorem State.notify_of_full {s : State} (full : 16 ≤ s.rep.notices.length) (n : Notice) : s.notify n =
    { s with rep := { s.rep with
        noticesLost := min 4294967295 (s.rep.noticesLost + 1)
        noticeLostFlag := true } } := by
  have : ¬s.rep.notices.length < Config.noticeCap := Nat.not_lt.mpr full
  simp only [State.notify, Report.notify, if_neg this]
  rfl

theorem runDetailBytes_eq (d : RunDetail) : runDetailBytes d = fields (match d with
    | .plain => []
    | .clip count rw channel counted => [(1, 1), (1, count), (2, rw), (1, channel.val), (2, maskOf counted)]
    | .drop pPrev pFilt d => [(1, 2), (3, pPrev), (3, pFilt), (2, d)]
    | .drain why ended entered dropped lone numbered located last =>
      [(1, freezeCode why), (1, testCode why), (4, ended), (4, entered), (4, dropped), (4, lone), (4, numbered),
        (4, located), (4, last)]) := by
  cases d <;> simp [runDetailBytes]

theorem outcomeBytes_eq (o : Option PatOutcome) : outcomeBytes o = fields (match o with
    | none => [(16, 0)]
    | some (.hit index rise duration counts energy amplitude clipped long) =>
      [(1, 1), (1, index), (2, rise), (4, duration), (2, counts), (4, energy), (1, amplitude),
        (1, flagBits [clipped, long])]
    | some .silent => [(1, 2), (15, 0)]
    | some .lost => [(1, 3), (15, 0)]) := by
  rcases o with _ | ⟨_⟩ | _ | _ <;> simp [outcomeBytes]

theorem outcomeBytes_length (o : Option PatOutcome) : (outcomeBytes o).length = 16 := by
  rcases o with _ | ⟨_⟩ | _ | _ <;> simp [outcomeBytes]

end Sys2Proof.Machine

namespace Sys2Proof

open Machine

/-- Settles O8: the queue's two cases by the room left, each notice's frame field by field, and the packed fields by
their bits. -/
theorem noticeJoinsOrIsLost : Obligations.NoticeJoinsOrIsLost := by
  refine ⟨fun s n => ⟨fun room => s.notify_of_room room n, fun full => s.notify_of_full full n⟩, fun n => ?_, fun n => ?_,
    ⟨flagBits_testBit, fun v c => ⟨maskOf_lt v, maskOf_testBit v c⟩,
      fun v c => ⟨packVerdicts_lt v, packVerdicts_div v c⟩⟩, ?_⟩
  · cases n with
    | run cause after before tick eventNo detail =>
      simp only [noticeFrame, noticePayload, noticeKind, runDetailBytes_eq, fields_append]
      cases detail <;> simp
    | checkResult kind start finish run detail =>
      simp only [noticeFrame, noticePayload, noticeKind]
      cases detail with
      | pattern slot outcomes =>
        simp only [checkDetailBytes, fields_append, fields_cons, fields_flatMap, outcomeBytes_eq]
        simp [CheckDetail.outcomeCodes] <;> rfl
      | _ => simp [checkDetailBytes, CheckDetail.outcomeCodes]
    | summary =>
      simp only [noticeFrame, noticePayload, noticeKind, fields_append, fields_flatMap, levelBytes]
      simp
    | _ => simp [noticeFrame, noticePayload, noticeKind, outputByte]
  · cases n with
    | run cause after before tick eventNo detail => cases detail <;> simp [noticePayload, runDetailBytes]
    | checkResult kind start finish run detail =>
      cases detail with
      | pattern slot outcomes =>
        simp [noticePayload, checkDetailBytes, List.length_flatMap, outcomeBytes_length, allChans_length]
      | _ => simp [noticePayload, checkDetailBytes]
    | summary => simp [noticePayload, List.length_flatMap, levelBytes, allChans_length]
    | _ => simp [noticePayload]
  · refine ⟨rfl, rfl, rfl, fun _ _ => rfl, rfl, rfl, rfl, rfl, rfl, rfl, rfl, rfl, fun _ => rfl, rfl, rfl, rfl,
      fun _ => rfl, rfl, rfl, rfl⟩

end Sys2Proof

namespace Sys2Proof.Machine

/-! ### Data records (R192, 11.5) -/

theorem hitFields_eq (r : HitRec) : hitFields r = fields [(2, r.rise), (4, r.duration), (2, r.counts), (1, r.amplitude),
    (4, r.energy), (3, r.stamp.pressure), (1, r.stamp.phase.code), (1, r.stamp.holdIndex),
    (1, flagBits [r.clipped, r.long, r.cut, r.stamp.belowMax, r.stamp.stale])] := by
  simp [hitFields, HitRec.tags]

theorem memberBytes_length (m : Member) : (memberBytes m).length = 28 := by simp [memberBytes, hitFields]

theorem hitRecordBytes_length (r : HitRec) (why : LoneReason) : (hitRecordBytes r why).length = 30 := by
  simp [hitRecordBytes, hitFields]

theorem locBytes_length (l : LocPart) : (locBytes l).length = 15 := by simp [locBytes]

theorem eventRecordBytes_length (e : EventRec) : (eventRecordBytes e).length =
    23 + 28 * e.members.length + if e.loc = none then 0 else 15 := by
  have members : (e.members.flatMap memberBytes).length = 28 * e.members.length := by
    simp [List.length_flatMap, memberBytes_length, Nat.mul_comm]
  cases loc : e.loc with
  | none => simp [eventRecordBytes, loc, members]; omega
  | some l => simp [eventRecordBytes, loc, members, locBytes_length]; omega

theorem EventRec.recordLength_eq (e : EventRec) :
    e.recordLength = 23 + 28 * e.members.length + if e.loc = none then 0 else 15 := by
  unfold EventRec.recordLength
  cases e.loc <;> simp

/-- The record length is that of the record's bytes (R192). -/
theorem DataRec.recordLength_eq (r : DataRec) : r.recordLength = r.bytes.length := by
  cases r with
  | hit r why => exact (hitRecordBytes_length r why).symm
  | event e => exact e.recordLength_eq.trans (eventRecordBytes_length e).symm

/-! ### The transmitter's choice (R187, R188) -/

theorem Report.choose_of_busy {r : Report} (busy : r.tx ≠ none ∨ r.hrdy = false) (run : RunState) (tick : Nat) :
    r.choose run tick = r := by
  unfold Report.choose
  rw [if_pos]
  rcases busy with e | e
  · simp [Option.isSome_iff_ne_none.mpr e]
  · simp [e]

/-- With the transmitter IDLE and HRDY asserted the reply goes first (R187). -/
theorem Report.choose_of_reply {r : Report} (idle : r.tx = none) (ready : r.hrdy = true) {p : Reply}
    (waits : r.reply = some p) (run : RunState) (tick : Nat) :
    r.choose run tick = { r with reply := none, tx := some (replyFrame p) } := by
  simp [Report.choose, idle, ready, waits]

/-- With no reply the oldest notice goes (R187). -/
theorem Report.choose_of_notice {r : Report} (idle : r.tx = none) (ready : r.hrdy = true) (none : r.reply = none)
    {n : Notice} {rest : List Notice} (waits : r.notices = n :: rest) (run : RunState) (tick : Nat) :
    r.choose run tick = { r with notices := rest, tx := some (noticeFrame n) } := by
  simp [Report.choose, idle, ready, none, waits]

/-- With neither, a data frame goes when the batch condition holds (R187). -/
theorem Report.choose_of_data {r : Report} (idle : r.tx = none) (ready : r.hrdy = true) (none : r.reply = none)
    (noNotice : r.notices = []) (run : RunState) (tick : Nat) :
    r.choose run tick = if r.batchReady run tick then r.sendData else r := by
  simp [Report.choose, idle, ready, none, noNotice]

/-- What one data frame takes: records from the head, as many as fit in number and in bytes (R188). -/
theorem takeData_spec (n room : Nat) (qs : List Queued) : ∃ sent left,
    takeData n room qs = (sent, left) ∧ qs = sent ++ left ∧ sent.length ≤ n ∧
      (sent.map fun q => q.record.recordLength).sum ≤ room ∧
      (left = [] ∨ sent.length = n ∨ ∃ q tail, left = q :: tail ∧
        room < (sent.map fun q => q.record.recordLength).sum + q.record.recordLength) := by
  induction n generalizing room qs with
  | zero => exact ⟨[], qs, rfl, rfl, Nat.le_refl _, Nat.zero_le _, .inr (.inl rfl)⟩
  | succ n ih =>
    cases qs with
    | nil => exact ⟨[], [], rfl, rfl, Nat.zero_le _, Nat.zero_le _, .inl rfl⟩
    | cons q qs =>
      by_cases fits : q.record.recordLength ≤ room
      · obtain ⟨sent, left, is, whole, count, size, most⟩ := ih (room - q.record.recordLength) qs
        refine ⟨q :: sent, left, by simp [takeData, fits, is], by simp [whole], by simpa using count, ?_, ?_⟩
        · simp only [List.map_cons, List.sum_cons]
          omega
        · rcases most with e | e | ⟨p, tail, e, beyond⟩
          · exact .inl e
          · exact .inr (.inl (by simp [e]))
          · refine .inr (.inr ⟨p, tail, e, ?_⟩)
            simp only [List.map_cons, List.sum_cons]
            omega
      · refine ⟨[], q :: qs, by simp [takeData, fits], rfl, Nat.zero_le _, Nat.zero_le _, .inr (.inr ⟨q, qs, rfl, ?_⟩)⟩
        simpa using fits

/-- A level test at a removal, after which the level never passes the ceiling (R184). -/
theorem Report.stepUp_eq (r : Report) : r.stepUp = { r with
    level := if r.data.length ≤ r.low ∧ r.ceiling.code < r.level.code then
        (if r.level = .summary then .events else .full)
      else r.level } := by
  unfold Report.stepUp
  simp only [Detail.below, decide_eq_true_eq]
  split
  · next lower =>
    cases level : r.level with
    | full => simp [level, Detail.code] at lower
    | events => rfl
    | summary => rfl
  · rfl

theorem Report.batchReady_of_empty {r : Report} (empty : r.data = []) (run : RunState) (tick : Nat) :
    r.batchReady run tick = false := by
  cases run <;> simp [Report.batchReady, empty]

theorem Report.aged_iff {r : Report} {q : Queued} {qs : List Queued} (data : r.data = q :: qs) (tick : Nat) :
    r.aged tick = true ↔ q.joined + 5000 * r.age ≤ tick := by
  rw [Report.aged, data]
  exact decide_eq_true_iff

/-- A data frame starts with at least one record, and with as many as it can hold (R188). -/
theorem Report.sendData_spec {r : Report} (data : r.data ≠ []) (fit : ∀ q ∈ r.data, q.record.bytes.length ≤ 1020) :
    ∃ (sent left : List Queued) (size : Nat), sent ≠ [] ∧ sent.length ≤ 16 ∧
      r.data = sent ++ left ∧ size = (sent.flatMap fun q => q.record.bytes).length ∧ size ≤ 1020 ∧
      (left = [] ∨ sent.length = 16 ∨ ∃ q qs, left = q :: qs ∧ 1020 < size + q.record.bytes.length) ∧
      r.sendData = { r with
        data := left
        tx := some (dataFrame sent)
        level := if left.length ≤ r.low ∧ r.ceiling.code < r.level.code then
            (if r.level = .summary then .events else .full)
          else r.level } := by
  obtain ⟨sent, left, is, whole, count, size, most⟩ := takeData_spec 16 1020 r.data
  have bytes : (sent.map fun q => q.record.recordLength).sum = (sent.flatMap fun q => q.record.bytes).length := by
    simp [List.length_flatMap, DataRec.recordLength_eq]
  rw [bytes] at size most
  simp only [DataRec.recordLength_eq] at most
  have is' : takeData Config.dataPerFrame Config.payloadMax r.data = (sent, left) := is
  refine ⟨sent, left, _, fun none => ?_, count, whole, rfl, size, most, ?_⟩
  · subst none
    rcases most with e | e | ⟨q, qs, e, beyond⟩
    · exact data (by simpa [e] using whole)
    · cases e
    · have := fit q (by simp [whole, e])
      simp at beyond
      omega
  · rw [Report.sendData, is', Report.stepUp_eq]

end Sys2Proof.Machine

namespace Sys2Proof

open Machine

/-- Settles O9: the batch condition by the run state, the choice by what is queued, the data frame by what its records
take of it, and the frames' bytes by their definitions. -/
theorem transmitterArbitrates : Obligations.TransmitterArbitrates := by
  refine ⟨fun tick r q qs => ⟨fun empty run => Report.batchReady_of_empty empty run tick, fun data => ?_⟩,
    fun run tick r => ⟨fun busy => Report.choose_of_busy busy run tick, fun idle ready => ⟨?_, ?_, ?_⟩⟩,
    fun n v => ⟨be_length n v, beNat_be n v⟩, ?_, fun _ _ _ _ => rfl, fun _ _ _ => rfl, fun _ => rfl,
    hitRecordBytes_length, eventRecordBytes_length⟩
  · simp [Report.batchReady, data, ← Report.aged_iff data]
  · intro p waits
    exact Report.choose_of_reply idle ready waits run tick
  · intro none n rest waits
    exact Report.choose_of_notice idle ready none waits run tick
  · intro none noNotice fit
    have choice := Report.choose_of_data idle ready none noNotice run tick
    refine ⟨fun batch => ?_, fun no => by rw [choice, no]; rfl⟩
    rw [choice, if_pos batch]
    refine Report.sendData_spec (fun empty => ?_) fit
    rw [Report.batchReady_of_empty empty] at batch
    cases batch
  · intro kind tag payload body is
    subst is
    rfl

end Sys2Proof

namespace Sys2Proof.Machine

/-! ### Records handed over (R182 to R184) -/

theorem Detail.admits_iff (d : Detail) (rec : DataRec) :
    d.admits rec = true ↔ d = .full ∨ (d = .events ∧ ∃ e, rec = .event e) := by
  cases d <;> cases rec <;> simp [Detail.admits]

/-- The level test at an addition or a loss, at a level that admits records (R184). -/
theorem Report.stepDown_eq (r : Report) (admits : r.level ≠ .summary) : r.stepDown = { r with
    level := if r.high ≤ r.data.length then (if r.level = .full then .events else .summary) else r.level } := by
  unfold Report.stepDown
  split
  · cases level : r.level with
    | full => rfl
    | events => rfl
    | summary => exact absurd level admits
  · rfl

theorem State.report_of_withheld {s : State} {rec : DataRec} (no : s.rep.level.admits rec = false) :
    s.report rec = s := by
  simp only [State.report, Report.handOver, no]
  rfl

theorem State.report_of_room {s : State} {rec : DataRec} (admits : s.rep.level.admits rec = true)
    (level : s.rep.level ≠ .summary) (room : s.rep.data.length < 256) : s.report rec =
      { s with rep := Report.choose s.ctl.run s.tick { s.rep with
          data := s.rep.data ++ [⟨rec, s.tick⟩]
          level := if s.rep.high ≤ s.rep.data.length + 1 then
              (if s.rep.level = .full then .events else .summary)
            else s.rep.level } } := by
  have room' : s.rep.data.length < Config.dataCap := room
  simp only [State.report, Report.handOver, admits, if_pos room', if_true]
  rw [Report.stepDown_eq _ (by exact level)]
  simp

theorem State.report_of_full {s : State} {rec : DataRec} (admits : s.rep.level.admits rec = true)
    (full : 256 ≤ s.rep.data.length) : s.report rec = { s with rep := (s.rep.lose rec).stepDown } := by
  have full' : ¬s.rep.data.length < Config.dataCap := Nat.not_lt.mpr full
  simp only [State.report, Report.handOver, admits, if_neg full', if_true]

end Sys2Proof.Machine

namespace Sys2Proof

open Machine

/-- Settles O10: the detail level admits the record or not, and the queue has room or not; the bytes by their layouts.
-/
theorem recordHandedOver : Obligations.RecordHandedOver := by
  refine ⟨fun s rec => ⟨fun withheld => ?_, fun admitted => ?_⟩, fun r own is => ?_, fun e => ?_,
    fun _ _ => ⟨rfl, rfl⟩, rfl, rfl⟩
  · refine State.report_of_withheld ?_
    rcases withheld with e | ⟨e, h, w, rfl⟩ <;> rw [e] <;> rfl
  · have admits := (s.rep.level.admits_iff rec).mpr admitted
    have level : s.rep.level ≠ .summary := by rcases admitted with e | ⟨e, -⟩ <;> simp [e]
    refine ⟨State.report_of_room admits level, fun full e is => ?_, fun full h w is => ?_⟩
    · rw [State.report_of_full admits full, is, Report.stepDown_eq _ (by exact level)]
      rfl
    · rw [State.report_of_full admits full, is, Report.stepDown_eq _ (by exact level)]
      rfl
  · subst is
    simp [DataRec.bytes, hitRecordBytes, memberBytes, hitFields_eq]
  · cases loc : e.loc with
    | none => simp [DataRec.bytes, eventRecordBytes, EventRec.recordLength, EventRec.tags, loc]
    | some l =>
      cases zone : l.zone <;>
        simp [DataRec.bytes, eventRecordBytes, EventRec.recordLength, EventRec.tags, locBytes, loc, zone]

/-- Settles O11: the three commands by their conditions; an aged record is the oldest's, at its joining tick plus the
age limit. -/
theorem transmitterChooses : Obligations.TransmitterChooses := by
  intro s running
  have sent : exec .frameSent s = .next s.frameSent := live_of_running _ running
  have aging : exec .ageLimit s = .next s.ageLimit := live_of_running _ running
  have pin (level : Bool) : exec (.hrdyAsserted level) s = .next (s.hrdyChange level) := rfl
  rw [sent, aging, pin, pin]
  refine ⟨fun busy => ?_, fun idle => ?_, fun q qs data armed old => ?_, fun q qs data young => ?_, fun empty => ?_,
    fun low => ?_, fun high => ?_, ?_⟩
  · rw [State.frameSent, if_pos (Option.isSome_iff_ne_none.mpr busy)]
    rfl
  · simp [State.frameSent, idle]
  · rw [State.ageLimit, if_pos ⟨armed, (Report.aged_iff data _).mpr old⟩]
    rfl
  · rw [State.ageLimit, if_neg]
    rintro ⟨armed, aged⟩
    have := (Report.aged_iff data _).mp aged
    rcases young with k | k
    · exact k armed
    · omega
  · simp [State.ageLimit, Report.aged, empty]
  · simp [State.hrdyChange, low, running, State.setHrdy, State.choose]
  · rw [State.hrdyChange, if_neg (by simp [high]), State.setHrdy, ← high]
  · simp [State.hrdyChange, State.setHrdy]

/-- Settles O12: the timer against the period in sample periods, and the counters against the snapshot. -/
theorem summaryBuilt : Obligations.SummaryBuilt := by
  intro s running
  have ran : exec .summaryTimer s = .next s.summaryTimer := live_of_running _ running
  rw [ran]
  refine ⟨fun early => ?_, fun asked due now is => ?_⟩
  · rw [State.summaryTimer, if_neg]
    rintro ⟨asked, due⟩
    rcases early with k | k
    · exact asked k
    · exact absurd due (Nat.not_le.mpr k)
  · have now_eq : now = s.counts := is
    subst now_eq
    rw [State.summaryTimer, if_pos ⟨asked, due⟩]
    rfl

end Sys2Proof

namespace Sys2Proof.Machine

/-! ### REPORT SET (R185) -/

theorem reportSetRule_of_length {payload : List Byte} (bad : payload.length ≠ 9) (s : State) :
    reportSetRule payload s = refuse s .format := by
  unfold reportSetRule
  split
  · simp at bad
  · rfl

theorem detailOf_code (d : Detail) : detailOf d.code = some d := by cases d <;> rfl

theorem detailOf_none {n : Nat} (above : 2 < n) : detailOf n = none := by
  unfold detailOf
  split <;> first | omega | rfl

theorem clampPeriod_ne_iff (p : Nat) : clampPeriod p ≠ p ↔ (1 ≤ p ∧ p < 100) ∨ 60000 < p := by
  unfold clampPeriod clampTo
  split <;> omega

theorem reportClamped_iff (high trigger age period : Nat) (above : 0 < high) :
    reportClamped high trigger age period = true ↔
      256 < high ∨ trigger = 0 ∨ 16 < trigger ∨ age = 0 ∨ 1000 < age ∨ (1 ≤ period ∧ period < 100) ∨ 60000 < period := by
  simp only [reportClamped, Bool.or_eq_true, outside_iff, decide_eq_true_eq, clampPeriod_ne_iff]
  omega

end Sys2Proof.Machine

namespace Sys2Proof

open Machine

/-- Settles O13: the tests in their order, then the settings, each with its clamp. -/
theorem reportSetByItsTests : Obligations.ReportSetByItsTests := by
  intro s f rest takes isKind
  have ofRow : kindIs 0x0E#8 f = true := beq_iff_eq.mpr isKind
  refine ⟨fun bad => takes.answers rfl ofRow (reportSetRule_of_length bad _), fun c h1 h0 l b a1 a0 p1 p0 payload => ?_⟩
  refine ⟨fun freezing => takes.answers rfl ofRow ?_, fun run => ⟨fun bad => takes.answers rfl ofRow ?_,
    fun d code below age per isAge isPer => takes.answers rfl ofRow ?_⟩⟩
  · rw [payload]
    exact if_pos freezing
  · rw [payload]
    have going : ¬(s.withReady rest).ctl.run = .freezing := run
    simp only [reportSetRule, reportStore, if_neg going]
    rcases bad with above | high
    · rw [detailOf_none above]
      rfl
    · split
      · rfl
      · exact if_neg (Nat.not_lt.mpr high)
  · subst isAge isPer
    rw [payload]
    have going : ¬(s.withReady rest).ctl.run = .freezing := run
    have below' : l.toNat < nat16 h1 h0 := below
    simp only [reportSetRule, reportStore, if_neg going, code, detailOf_code, if_pos below',
      doneOr_of_iff (reportClamped_iff _ _ _ _ (Nat.zero_lt_of_lt below'))]
    have least : clampTo 1 256 (nat16 h1 h0) = min 256 (nat16 h1 h0) := by
      rw [clampTo_eq]
      omega
    simp only [Report.configure, least, Detail.below, decide_eq_true_eq]
    rfl

end Sys2Proof
end

section
/-! PROOFS. The pressure monitor (01): conversions, the values a used code forms, and PRESSURE SET. -/

namespace Sys2Proof.Machine

/-! ### Conversions (R3, R6, R7) -/

theorem State.conversionComplete_of_due {s : State} (converting : s.press.converting = true)
    (due : 5 * 2 ^ s.press.acq.val + 15 ≤ s.press.periodTimer) (code : Code) :
    s.conversionComplete code = State.takeCode { s with press := { s.press with converting := false } } code := by
  have due' : s.press.acqTicks + Config.convertTicks ≤ s.press.periodTimer := due
  simp only [State.conversionComplete, converting, due', decide_true, Bool.and_self, if_true]

theorem State.conversionComplete_of_not_due {s : State}
    (notDue : s.press.converting = false ∨ s.press.periodTimer < 5 * 2 ^ s.press.acq.val + 15) (code : Code) :
    s.conversionComplete code = s := by
  unfold State.conversionComplete
  rw [if_neg]
  simp only [Bool.and_eq_true, decide_eq_true_eq, not_and]
  intro converting due
  rcases notDue with e | e
  · simp [converting] at e
  · exact absurd due (Nat.not_le.mpr e)

/-- A code that is used leaves UNDER standing only where it stood (R6). -/
theorem Pressure.nextFlag_of_used {p : Pressure} {code : Nat} (used : ¬(code = 0 ∧ 0 < p.zero)) :
    p.nextFlag code = if code = 4095 then .over else if code = 0 then p.flag else .valid := by
  unfold Pressure.nextFlag
  split
  · rfl
  · split
    · next zero => rw [if_neg fun above => used ⟨zero, above⟩]
    · rfl

theorem Pressure.nextFlag_of_unused {p : Pressure} (above : 0 < p.zero) : p.nextFlag 0 = .under := by
  simp [Pressure.nextFlag, above]

theorem Pressure.uses_of_used {p : Pressure} {code : Nat} (used : ¬(code = 0 ∧ 0 < p.zero)) : p.uses code = true := by
  simpa [Pressure.uses, imp_iff_not_or] using used

/-! ### What one computation leaves (R9 to R11, R14) -/

/-- The reference pressure moves exactly where the stable count falls to 0 (R9). -/
theorem Pressure.nextStable_eq_zero_iff (p : Pressure) (pf : Nat) :
    p.nextStable pf = 0 ↔ ¬absDiff pf p.pRef ≤ p.band := by
  unfold Pressure.nextStable satAdd Config.sat16
  split
  · next within => simp [within]
  · next beyond => simp [beyond]

/-- Does the below-max span open at this computation, which chooses the phase (R14)? -/
def Pressure.opensAt (p : Pressure) (pf : Nat) (phase : Phase) : Bool :=
  decide (p.spanOpen = false ∧ phase ≠ .ramp ∧ pf < p.floorLevel)

/-- The span opens below the maximum outside of RAMP, and closes in RAMP (R14). -/
theorem Pressure.moveSpan_fields (p : Pressure) (pf : Nat) (phase : Phase) : p.moveSpan pf phase =
    { p with
      spanOpen := p.opensAt pf phase || (p.spanOpen && decide (phase ≠ .ramp))
      spanCount := if p.opensAt pf phase then 0 else p.spanCount
      spanMarked := if p.opensAt pf phase then false else p.spanMarked } := by
  unfold Pressure.moveSpan
  by_cases fresh : p.spanOpen = false ∧ phase ≠ .ramp ∧ pf < p.floorLevel
  · have opens : p.opensAt pf phase = true := decide_eq_true fresh
    rw [if_neg (by simp [fresh.1]), if_pos fresh.2, opens]
    rfl
  · have closed : p.opensAt pf phase = false := decide_eq_false fresh
    rw [closed]
    by_cases opened : p.spanOpen = true
    · rw [if_pos opened]
      by_cases ramp : phase = .ramp
      · simp [ramp]
      · simp [ramp]
    · rw [if_neg opened, if_neg fun h => fresh ⟨by simpa using opened, h⟩]
      have stays : (false || (p.spanOpen && decide (phase ≠ .ramp))) = p.spanOpen := by simp [opened]
      rw [stays]
      rfl

/-- The monitor after a computation, field by field (R9 to R11, R14). -/
theorem Pressure.compute_fields (p : Pressure) (pf : Nat) (phase : Phase) (opens : Bool)
    (chosen : (p.track pf).pick pf = phase) (isOpened : (p.track pf).opensAt pf phase = opens) : p.compute pf =
    { p with
      pMax := max p.pMax pf
      stable := p.nextStable pf
      pRef := if p.nextStable pf = 0 then pf else p.pRef
      pFilt := pf
      phase := phase
      pPrev := pf
      holdIndex := if phase = .hold ∧ p.phase ≠ .hold then min 255 (p.holdIndex + 1) else p.holdIndex
      spanOpen := opens || (p.spanOpen && decide (phase ≠ .ramp))
      spanCount := if opens then 0 else p.spanCount
      spanMarked := if opens then false else p.spanMarked } := by
  have reference : (if p.nextStable pf = 0 then pf else p.pRef) =
      if absDiff pf p.pRef ≤ p.band then p.pRef else pf := by
    by_cases within : absDiff pf p.pRef ≤ p.band
    · rw [if_pos within, if_neg fun zero => (p.nextStable_eq_zero_iff pf).mp zero within]
    · rw [if_neg within, if_pos ((p.nextStable_eq_zero_iff pf).mpr within)]
  subst chosen isOpened
  rw [reference, Pressure.compute, Pressure.moveSpan_fields]
  rfl

/-! ### A phase told, and the check that it aborts (R11, R148) -/

/-- The abort of a check that began in ARMED, which closes the span of the drop range (R58, R148). -/
theorem State.abortCheck_of_armed {s : State} {ck : Check} (present : s.chk.check = some ck)
    (armed : ck.startRun = .armed) (why : AbortReason) : s.abortCheck why = State.notify
      (State.mapCh { s with chk := { s.chk with check := none }, dropRange := closeSpan s.tick s.dropRange }
        fun c y => if ck.involved[c] = true ∧ y.state = .testing then { y with state := .quiet } else y)
      (.checkResult ck.kind ck.startTick s.tick ck.startRun (.aborted why)) := by
  simp only [State.abortCheck, present, State.releaseCheck, State.endSpan, if_pos armed, Bool.and_eq_true,
    decide_eq_true_eq]
  rfl

/-- s with its phase told, where it is another than before (R11). -/
def State.phaseTold (s : State) (old : Phase) : State :=
  if s.press.phase = old then s
  else s.notify (.phaseChange s.tick old s.press.phase s.press.pFilt s.press.pMax s.press.holdIndex)

theorem State.phaseTold_chk (s : State) (old : Phase) : (s.phaseTold old).chk = s.chk := by
  unfold State.phaseTold
  split <;> rfl

/-- A check taken in ARMED is aborted where the phase has left HOLD, behind the PHASE notice (R11, R148). -/
theorem State.tellPhase_of_left {s : State} {ck : Check} (present : s.chk.check = some ck)
    (left : s.press.phase ≠ .hold) (armed : ck.startRun = .armed) :
    s.tellPhase .hold = (s.phaseTold .hold).abortCheck .phase := by
  simp only [State.tellPhase, State.phaseTold, if_neg left, State.notify_chk, present, armed, and_self, if_true]

/-- No check is aborted where the phase stays, was not HOLD, or no check taken in ARMED is in progress (R148). -/
theorem State.tellPhase_of_stays {s : State} {old : Phase} (stays : ∀ ck, s.chk.check = some ck →
    ¬(old = .hold ∧ s.press.phase ≠ .hold ∧ ck.startRun = .armed)) : s.tellPhase old = s.phaseTold old := by
  unfold State.tellPhase State.phaseTold
  split
  · rfl
  · next moved =>
    simp only [State.notify_chk]
    cases present : s.chk.check with
    | none => rfl
    | some ck =>
      refine if_neg fun h => stays ck present ⟨h.1, fun hold => moved (hold.trans h.1.symm), h.2⟩

/-- The code taken: the flag, and where it is used, the pressure (R5 to R12). -/
theorem State.takeCode_of_used {s : State} {code : Code} (used : ¬(code.toNat = 0 ∧ 0 < s.press.zero)) :
    s.takeCode code = (s.takeFlag code).useP (s.press.historyFor code.toNat) (s.press.scale code.toNat) := by
  simp only [State.takeCode, Pressure.uses_of_used used, if_true]

theorem State.takeFlag_of_same {s : State} {code : Code} (same : s.press.nextFlag code.toNat = s.press.flag) :
    s.takeFlag code = s := if_pos same

theorem State.takeFlag_of_other {s : State} {code : Code} (other : s.press.nextFlag code.toNat ≠ s.press.flag) :
    s.takeFlag code = State.notify
      { s with press := { s.press with flag := s.press.nextFlag code.toNat, flagChanged := true } }
      (.faultRange s.tick s.press.flag (s.press.nextFlag code.toNat) code) := if_neg other

/-- A code that is not used changes the flag alone (R6). -/
theorem State.takeCode_of_unused {s : State} {code : Code} (zero : code.toNat = 0) (above : 0 < s.press.zero) :
    s.takeCode code = s.takeFlag code := by
  have unused : s.press.uses code.toNat = false := by simp [Pressure.uses, zero, above]
  simp only [State.takeCode, unused, Bool.false_eq_true, if_false]

theorem State.takeFlag_of_unused {s : State} {code : Code} (zero : code.toNat = 0) (above : 0 < s.press.zero)
    (other : s.press.flag ≠ .under) : s.takeFlag code = State.notify
      { s with press := { s.press with flag := .under, flagChanged := true } }
      (.faultRange s.tick s.press.flag .under code) := by
  have under : s.press.nextFlag code.toNat = .under := zero ▸ Pressure.nextFlag_of_unused above
  rw [State.takeFlag_of_other fun same => other (same.symm.trans under), under]

/-- The drop test freezes an ARMED run at a fall of the drop limit (R158). -/
theorem State.dropTest_of_drop {s : State} {pPrev pFilt : Nat} (armed : s.ctl.run = .armed) (asked : s.ctl.d ≠ 0)
    (drop : s.ctl.d ≤ pPrev - pFilt) :
    s.dropTest pPrev pFilt = s.frozen (.rupture .drop) .rupture (.drop pPrev pFilt s.ctl.d) := by
  rw [State.dropTest, if_pos ⟨armed, asked, drop⟩, State.enterFreezing_eq]

theorem State.dropTest_of_no_drop {s : State} {pPrev pFilt : Nat}
    (no : s.ctl.run ≠ .armed ∨ s.ctl.d = 0 ∨ pPrev - pFilt < s.ctl.d) : s.dropTest pPrev pFilt = s := by
  rw [State.dropTest, if_neg]
  rintro ⟨armed, asked, drop⟩
  rcases no with e | e | e
  · exact e armed
  · exact asked e
  · exact absurd drop (Nat.not_le.mpr e)

/-- A used P by the values it forms (R8 to R12, R158). -/
theorem State.useP_eq (s : State) (history : List Nat) (P : Nat) {joined : List Nat} {pf : Nat}
    (isJoined : joined = joinHistory history P) (isPf : pf = meanOf joined) {told : State}
    (isTold : told = State.tellPhase
      { s with press := Pressure.compute { s.press with history := joined, awaiting := false } pf } s.press.phase) :
    s.useP history P = if history = [] ∨ s.press.flag = .under then told else told.dropTest s.press.pPrev pf := by
  subst isTold isPf isJoined
  simp only [State.useP, Bool.or_eq_true, List.isEmpty_iff, decide_eq_true_eq]

end Sys2Proof.Machine

namespace Sys2Proof

open Machine

/-- Settles O5: the period timer against the period, and an unused code by its flag alone. -/
theorem conversionStartsAndMayBeUnused : Obligations.ConversionStartsAndMayBeUnused := by
  refine ⟨fun s running => ?_, fun s code running => ?_⟩
  · have ran : exec .pressurePeriod s = .next s.pressurePeriod := live_of_running _ running
    rw [ran]
    refine ⟨fun due => ?_, fun early => ?_⟩
    · have due' : s.press.periodTicks ≤ s.press.periodTimer := due
      rw [State.pressurePeriod, if_pos due']
      rfl
    · have early' : ¬s.press.periodTicks ≤ s.press.periodTimer := Nat.not_le.mpr early
      rw [State.pressurePeriod, if_neg early']
  · have ran : exec (.conversionComplete code) s = .next (s.conversionComplete code) := live_of_running _ running
    rw [ran]
    refine ⟨fun converting due zero above => ?_, fun notDue => ?_⟩
    · have flagAlone := State.takeCode_of_unused (s := { s with press := { s.press with converting := false } }) zero above
      rw [State.conversionComplete_of_due converting due, flagAlone]
      have under : s.press.nextFlag code.toNat = .under := zero ▸ Pressure.nextFlag_of_unused above
      exact ⟨fun same => congrArg Host.Outcome.next (State.takeFlag_of_same (under.trans same.symm)),
        fun other => congrArg Host.Outcome.next (State.takeFlag_of_unused zero above other)⟩
    · rw [State.conversionComplete_of_not_due notDue]

/-- Settles O6: the flag, the values of one computation, the phase told with the abort it may bring, and the drop test,
each by the lemma of its operation. -/
theorem conversionFormsValues : Obligations.ConversionFormsValues := by
  intro s code P pf pMax stable flag old joined phase opens hold x s1 s2 s3 s4 running converting due used isP isFlag
    isOld isJoined isPf isMax isStable isPhase isHold isOpens isX is1 is2 is3 is4
  have flagIs : s.press.nextFlag code.toNat = flag := (Pressure.nextFlag_of_used used).trans isFlag.symm
  have ran : exec (.conversionComplete code) s = .next (x.takeCode code) := by
    have live : exec (.conversionComplete code) s = .next (s.conversionComplete code) := live_of_running _ running
    rw [live, State.conversionComplete_of_due converting due, isX]
  -- the flag, which changes the report unit besides
  have flagTaken : x.takeFlag code = s1 := by
    have next : x.press.nextFlag code.toNat = flag := by rw [isX]; exact flagIs
    have before : x.press.flag = s.press.flag := by rw [isX]
    rw [is1]
    split
    · next same => exact State.takeFlag_of_same (next.trans (same.trans before.symm))
    · next other =>
      rw [State.takeFlag_of_other fun same => other (next.symm.trans (same.trans before)), next, before]
      rw [isX]
  obtain ⟨c, r, is1'⟩ : ∃ c r, s1 = { s with
      press := { s.press with converting := false, flag := flag, flagChanged := c }
      rep := r } := by
    rw [is1, isX]
    split
    · next same => exact ⟨s.press.flagChanged, s.rep, by rw [same]⟩
    · exact ⟨true, _, rfl⟩
  -- the values of the computation
  have stableIs : s.press.nextStable pf = stable := by
    rw [isStable, Pressure.nextStable, absDiff_eq]
    rfl
  have phaseIs : (s.press.track pf).pick pf = phase := by
    rw [Pressure.pick_track, stableIs, isPhase, isMax]
  have opensIs : (s.press.track pf).opensAt pf phase = opens := by
    rw [isOpens, isMax]
    rfl
  have computed := Pressure.compute_fields
    { s1.press with history := joined, awaiting := false } pf phase opens (by rw [is1']; exact phaseIs)
    (by rw [is1']; exact opensIs)
  have formed : { s1 with press := Pressure.compute { s1.press with history := joined, awaiting := false } pf } = s2 := by
    rw [computed, is2, is1', isMax, isHold, ← stableIs]
    rfl
  -- the phase told, and the check aborted
  have told3 : s2.phaseTold s.press.phase = s3 := by
    rw [is3, is2, is1']
    rfl
  have still : s3.chk = s.chk ∧ s3.tick = s.tick ∧ s3.dropRange = s.dropRange := by
    rw [is3, is2, is1']
    split <;> exact ⟨rfl, rfl, rfl⟩
  have phase2 : s2.press.phase = phase := by rw [is2]
  have chk2 : s2.chk = s.chk := by rw [is2, is1']
  have told4 : s4 = s2.tellPhase s.press.phase := by
    rw [is4]
    cases present : s.chk.check with
    | none =>
      rw [State.tellPhase_of_stays fun ck e => by rw [chk2, present] at e; cases e]
      exact told3.symm
    | some ck =>
      dsimp only
      split
      · next left =>
        obtain ⟨hold, gone, armed⟩ := left
        rw [hold, State.tellPhase_of_left (by rw [chk2]; exact present) (by rw [phase2]; exact gone) armed, ← hold,
          told3, State.abortCheck_of_armed (by rw [still.1]; exact present) armed, still.1, still.2.1, still.2.2]
      · next stays =>
        rw [State.tellPhase_of_stays fun k e => ?_]
        · exact told3.symm
        · rw [chk2, present] at e
          cases e
          rw [phase2]
          exact stays
  have historyIs : x.press.historyFor code.toNat = old := by
    rw [isOld, isX, ← flagIs]
    rfl
  have scaleIs : x.press.scale code.toNat = P := by
    rw [isP, isX]
    rfl
  have press1 : s1.press.flag = flag ∧ s1.press.phase = s.press.phase ∧ s1.press.pPrev = s.press.pPrev := by
    rw [is1']
    exact ⟨rfl, rfl, rfl⟩
  have whole : x.takeCode code = if old = [] ∨ flag = .under then s4 else s4.dropTest s.press.pPrev pf := by
    rw [State.takeCode_of_used (by rw [isX]; exact used), flagTaken, historyIs, scaleIs,
      State.useP_eq s1 old P (told := s4) isJoined isPf (by rw [formed, press1.2.1]; exact told4), press1.1, press1.2.2]
  have ctl4 : s4.ctl = s.ctl := by
    obtain ⟨k, ch, d, rep, told, -⟩ := s2.tellPhase_eq s.press.phase
    rw [told4, told, is2, is1']
  rw [ran, whole]
  refine ⟨fun no => ?_, fun hadHistory sound armed asked drop => ?_⟩
  · split
    · rfl
    · next tested =>
      rw [State.dropTest_of_no_drop]
      rw [ctl4]
      tauto
  · rw [if_neg (by tauto), State.dropTest_of_drop (by rw [ctl4]; exact armed) (by rw [ctl4]; exact asked)
      (by rw [ctl4]; exact drop), ctl4]

end Sys2Proof

namespace Sys2Proof.Machine

/-! ### PRESSURE SET (R4) -/

theorem pressureClamps_iff (z sp h on : Nat) (count : on < 256) : pressureClamps z sp h on = true ↔
    4094 < z ∨ sp = 0 ∨ 262143 < sp ∨ h = 0 ∨ 4095 < h ∨ on = 0 := by
  simp only [pressureClamps, Bool.or_eq_true, outside_iff]
  omega

end Sys2Proof.Machine

namespace Sys2Proof

open Machine

/-- Settles O7: past the test of the configuration requests, the two selections are listed or not, and the numeric
settings are clamped. -/
theorem pressureSetTaken : Obligations.PressureSetTaken := by
  intro s f rest per acq z1 z0 s2 s1 s0 b1 b0 h1 h0 n takes configurable isKind payload
  have ofRow : kindIs 0x06#8 f = true := beq_iff_eq.mpr isKind
  have passed : (s.withReady rest).configTest = none := State.configTest_none configurable
  refine ⟨fun bad => takes.answers rfl ofRow ?_, fun hp ha => takes.answers rfl ofRow ?_⟩
  · have unlisted : ¬(per.toNat < 6 ∧ acq.toNat < 4) := by omega
    rw [payload]
    simp only [pressureSetRule, pressureStore, passed, dif_neg unlisted]
    rfl
  · have zero : clampTo 0 4094 (nat16 z1 z0) = min 4094 (nat16 z1 z0) := Nat.zero_max _
    have count : clampTo 1 255 n.toNat = max 1 n.toNat := by
      have := n.isLt
      rw [clampTo_eq]
      omega
    rw [payload]
    simp only [pressureSetRule, pressureStore, passed, dif_pos (And.intro hp ha), zero, count,
      doneOr_of_iff (pressureClamps_iff _ _ _ _ n.isLt)]
    rfl

end Sys2Proof
end

section
/-! PROOFS. The requests that set and read: association and rupture settings (04, 08), geometry, sensors, windows and
zones (05), the map's (06), BASELINE READ (07), STATUS and the configuration requests' refusals (09). -/

namespace Sys2Proof.Machine

/-! ### Lengths -/

/-- A rule that asks for n bytes refuses every other length (R175). -/
def AsksLength (rule : List Byte → State → Answer) (n : Nat) : Prop :=
  ∀ (payload : List Byte) (s : State), payload.length ≠ n → rule payload s = refuse s .format

theorem pressureSetRule_length : AsksLength pressureSetRule 12 := by
  intro payload s bad
  unfold pressureSetRule
  split
  · simp at bad
  · rfl

theorem geometrySetRule_length : AsksLength geometrySetRule 8 := by
  intro payload s bad
  unfold geometrySetRule
  split
  · simp at bad
  · rfl

theorem sensorPlaceRule_length : AsksLength sensorPlaceRule 6 := by
  intro payload s bad
  unfold sensorPlaceRule
  split
  · simp at bad
  · rfl

theorem windowSetRule_length : AsksLength windowSetRule 5 := by
  intro payload s bad
  unfold windowSetRule
  split
  · simp at bad
  · rfl

theorem zoneSetRule_length : AsksLength zoneSetRule 6 := by
  intro payload s bad
  unfold zoneSetRule
  split
  · simp at bad
  · rfl

theorem associationSetRule_length : AsksLength associationSetRule 6 := by
  intro payload s bad
  unfold associationSetRule
  split
  · simp at bad
  · rfl

theorem ruptureSetRule_length : AsksLength ruptureSetRule 5 := by
  intro payload s bad
  unfold ruptureSetRule
  split
  · simp at bad
  · rfl

theorem clusterSetRule_length : AsksLength clusterSetRule 9 := by
  intro payload s bad
  unfold clusterSetRule
  split
  · simp at bad
  · rfl

theorem mapReadRule_length : AsksLength mapReadRule 4 := by
  intro payload s bad
  unfold mapReadRule
  split
  · simp at bad
  · rfl

theorem baselineReadRule_length : AsksLength baselineReadRule 1 := by
  intro payload s bad
  unfold baselineReadRule
  split
  · simp at bad
  · rfl

/-! ### The test of the configuration requests (R161, R175) -/

/-- A rule that, asked with n bytes, refuses what the configuration test refuses. -/
def AsksConfig (rule : List Byte → State → Answer) (n : Nat) : Prop :=
  ∀ (payload : List Byte) (s : State) (r : Result), payload.length = n → s.configTest = some r →
    rule payload s = refuse s r

/-- A list of n + 3 entries begins with three. -/
theorem three_of_length {α : Type} {l : List α} {n : Nat} (size : l.length = n + 3) :
    ∃ a b c t, l = a :: b :: c :: t ∧ t.length = n := by
  obtain ⟨a, t, rfl⟩ := List.exists_cons_of_length_eq_add_one size
  obtain ⟨b, t, rfl⟩ := List.exists_cons_of_length_eq_add_one (Nat.succ.inj size)
  obtain ⟨c, t, rfl⟩ := List.exists_cons_of_length_eq_add_one (Nat.succ.inj (Nat.succ.inj size))
  exact ⟨a, b, c, t, rfl, by simpa using size⟩

theorem pressureSetRule_config : AsksConfig pressureSetRule 12 := by
  intro payload s r size test
  obtain ⟨_, _, _, _, rfl, left9⟩ := three_of_length (n := 9) size
  obtain ⟨_, _, _, _, rfl, left6⟩ := three_of_length (n := 6) left9
  obtain ⟨_, _, _, _, rfl, left3⟩ := three_of_length (n := 3) left6
  obtain ⟨_, _, _, rfl⟩ := List.length_eq_three.mp left3
  simp only [pressureSetRule, pressureStore, test]

theorem geometrySetRule_config : AsksConfig geometrySetRule 8 := by
  intro payload s r size test
  obtain ⟨_, _, _, _, rfl, left5⟩ := three_of_length (n := 5) size
  obtain ⟨_, _, _, _, rfl, left2⟩ := three_of_length (n := 2) left5
  obtain ⟨_, _, rfl⟩ := List.length_eq_two.mp left2
  simp only [geometrySetRule, geometryStore, test]

theorem sensorPlaceRule_config : AsksConfig sensorPlaceRule 6 := by
  intro payload s r size test
  obtain ⟨_, _, _, _, rfl, left3⟩ := three_of_length (n := 3) size
  obtain ⟨_, _, _, rfl⟩ := List.length_eq_three.mp left3
  simp only [sensorPlaceRule, sensorPlaceStore, test]

theorem sensorUnplaceRule_config : AsksConfig sensorUnplaceRule 6 := by
  intro payload s r size test
  obtain ⟨_, _, _, _, rfl, left3⟩ := three_of_length (n := 3) size
  obtain ⟨_, _, _, rfl⟩ := List.length_eq_three.mp left3
  simp only [sensorUnplaceRule, sensorUnplaceStore, test]

theorem windowSetRule_config : AsksConfig windowSetRule 5 := by
  intro payload s r size test
  obtain ⟨_, _, _, _, rfl, left2⟩ := three_of_length (n := 2) size
  obtain ⟨_, _, rfl⟩ := List.length_eq_two.mp left2
  simp only [windowSetRule, windowStore, test]

theorem zoneSetRule_config : AsksConfig zoneSetRule 6 := by
  intro payload s r size test
  obtain ⟨_, _, _, _, rfl, left3⟩ := three_of_length (n := 3) size
  obtain ⟨_, _, _, rfl⟩ := List.length_eq_three.mp left3
  simp only [zoneSetRule, zoneStore, test]

theorem associationSetRule_config : AsksConfig associationSetRule 6 := by
  intro payload s r size test
  obtain ⟨_, _, _, _, rfl, left3⟩ := three_of_length (n := 3) size
  obtain ⟨_, _, _, rfl⟩ := List.length_eq_three.mp left3
  simp only [associationSetRule, associationStore, test]

theorem ruptureSetRule_config : AsksConfig ruptureSetRule 5 := by
  intro payload s r size test
  obtain ⟨_, _, _, _, rfl, left2⟩ := three_of_length (n := 2) size
  obtain ⟨_, _, rfl⟩ := List.length_eq_two.mp left2
  simp only [ruptureSetRule, ruptureStore, test]

theorem State.configTest_of_freezing {s : State} (freezing : s.ctl.run = .freezing) : s.configTest = some .busy := by
  simp only [State.configTest, freezing]

theorem State.configTest_of_armed {s : State} (armed : s.ctl.run = .armed) : s.configTest = some .state := by
  simp only [State.configTest, armed]

/-- A row of one kind whose rule asks for n bytes and for the configuration test refuses as R175 says. -/
theorem State.Takes.refuses_config {s : State} {f : Frame} {rest : List Frame} (takes : s.Takes f rest) {i : Instr}
    {k : Byte} {rule : List Byte → State → Answer} {n : Nat}
    (row : ∀ s, exec i s = live (State.handle (kindIs k) rule) s) (length : AsksLength rule n)
    (config : AsksConfig rule n) (isKind : f.kind = k) :
    (f.payload.length ≠ n → Refuses i s f rest .format) ∧
    (f.payload.length = n → s.ctl.run = .freezing → Refuses i s f rest .busy) ∧
    (f.payload.length = n → s.ctl.run = .armed → Refuses i s f rest .state) := by
  have ofRow : kindIs k f = true := beq_iff_eq.mpr isKind
  exact ⟨fun bad => takes.answers (row s) ofRow (length _ _ bad),
    fun size freezing => takes.answers (row s) ofRow (config _ _ _ size (State.configTest_of_freezing freezing)),
    fun size armed => takes.answers (row s) ofRow (config _ _ _ size (State.configTest_of_armed armed))⟩

/-- Which of the two rows of SENSOR PLACE takes a frame of six bytes (log 5). -/
theorem isUnplace_eq {f : Frame} {ch a s1 s0 z1 z0 : Byte} (isKind : f.kind = 0x08#8)
    (payload : f.payload = [ch, a, s1, s0, z1, z0]) : isUnplace f = (a == 0#8) := by
  simp [isUnplace, kindIs, isKind, payload]

theorem isPlace_of_length {f : Frame} (isKind : f.kind = 0x08#8) (bad : f.payload.length ≠ 6) : isPlace f = true := by
  unfold isPlace isUnplace
  split
  · next payload => simp [payload] at bad
  · simp [kindIs, isKind]

theorem isPlace_of_action {f : Frame} {ch a s1 s0 z1 z0 : Byte} (isKind : f.kind = 0x08#8)
    (payload : f.payload = [ch, a, s1, s0, z1, z0]) (place : a ≠ 0#8) : isPlace f = true := by
  simp [isPlace, isUnplace_eq isKind payload, kindIs, isKind, place]

end Sys2Proof.Machine

namespace Sys2Proof

open Machine

/-- Settles O54: a request of the list by its rule's length and configuration test; a SENSOR PLACE frame besides by the
row that takes it. -/
theorem configRequestsRefused : Obligations.ConfigRequestsRefused := by
  intro s f rest takes
  refine ⟨fun i k n listed isKind => ?_, fun isKind bad => ?_, fun i ch a s1 s0 z1 z0 isKind payload isRow => ?_⟩
  · simp only [List.mem_cons, Prod.mk.injEq, List.not_mem_nil, or_false] at listed
    rcases listed with ⟨rfl, rfl, rfl⟩ | ⟨rfl, rfl, rfl⟩ | ⟨rfl, rfl, rfl⟩ | ⟨rfl, rfl, rfl⟩ | ⟨rfl, rfl, rfl⟩ |
      ⟨rfl, rfl, rfl⟩
    · exact takes.refuses_config (fun _ => rfl) pressureSetRule_length pressureSetRule_config isKind
    · exact takes.refuses_config (fun _ => rfl) geometrySetRule_length geometrySetRule_config isKind
    · exact takes.refuses_config (fun _ => rfl) windowSetRule_length windowSetRule_config isKind
    · exact takes.refuses_config (fun _ => rfl) zoneSetRule_length zoneSetRule_config isKind
    · exact takes.refuses_config (fun _ => rfl) associationSetRule_length associationSetRule_config isKind
    · exact takes.refuses_config (fun _ => rfl) ruptureSetRule_length ruptureSetRule_config isKind
  · exact takes.answers (isRow := isPlace) rfl (isPlace_of_length isKind bad) (sensorPlaceRule_length _ _ bad)
  · have size : f.payload.length = 6 := by rw [payload]; rfl
    subst isRow
    split
    · next zero =>
      have ofRow : isUnplace f = true := by rw [isUnplace_eq isKind payload, zero]; rfl
      exact ⟨fun freezing => takes.answers (isRow := isUnplace) rfl ofRow
          (sensorUnplaceRule_config _ _ _ size (State.configTest_of_freezing freezing)),
        fun armed => takes.answers (isRow := isUnplace) rfl ofRow
          (sensorUnplaceRule_config _ _ _ size (State.configTest_of_armed armed))⟩
    · next other =>
      have ofRow := isPlace_of_action isKind payload other
      exact ⟨fun freezing => takes.answers (isRow := isPlace) rfl ofRow
          (sensorPlaceRule_config _ _ _ size (State.configTest_of_freezing freezing)),
        fun armed => takes.answers (isRow := isPlace) rfl ofRow
          (sensorPlaceRule_config _ _ _ size (State.configTest_of_armed armed))⟩

/-- Settles O30: past the configuration test the three values are stored, each with its clamp. -/
theorem associationAndRuptureSetTaken : Obligations.AssociationAndRuptureSetTaken := by
  intro s f rest w1 w0 x1 x0 y1 y0 rc d1 d0 w takes configurable isW
  have passed : (s.withReady rest).configTest = none := State.configTest_none configurable
  have window : clampTo 1 65535 (nat16 w1 w0) = max 1 w := by
    have := nat16_lt w1 w0
    rw [clampTo_eq, nat16_eq, ← isW]
    rw [nat16_eq, ← isW] at this
    omega
  have small : ∀ v, outside 1 65535 (nat16 w1 w0) = true ∨ v ↔ w = 0 ∨ v := by
    intro v
    have := nat16_lt w1 w0
    rw [outside_iff, nat16_eq, ← isW]
    rw [nat16_eq, ← isW] at this
    have : w < 1 ∨ 65535 < w ↔ w = 0 := by omega
    rw [this]
  refine ⟨fun isKind payload => takes.answers (isRow := kindIs 0x0B#8) rfl (beq_iff_eq.mpr isKind) ?_,
    fun isKind payload => takes.answers (isRow := kindIs 0x0D#8) rfl (beq_iff_eq.mpr isKind) ?_⟩
  · have clamped : outside 1 65535 (nat16 w1 w0) = true ↔ w = 0 := by simpa using small False
    rw [payload]
    simp only [associationSetRule, associationStore, passed, window, doneOr_of_iff clamped]
    rfl
  · have count : decide (clampRc rc.toNat ≠ rc.toNat) = true ↔ rc.toNat = 1 ∨ 16 < rc.toNat := by
      rw [decide_eq_true_eq]
      unfold clampRc clampTo
      split <;> omega
    have clamped : (outside 1 65535 (nat16 w1 w0) || decide (clampRc rc.toNat ≠ rc.toNat)) = true ↔
        w = 0 ∨ rc.toNat = 1 ∨ 16 < rc.toNat := by
      rw [Bool.or_eq_true, small, count]
    rw [payload]
    simp only [ruptureSetRule, ruptureStore, passed, window, doneOr_of_iff clamped]
    rfl

/-- Settles O33: past the configuration test the four dimensions are in their ranges or not. -/
theorem geometrySetLoads : Obligations.GeometrySetLoads := by
  intro s f rest c1 c0 l1 l0 nc nr v1 v0 circ len v takes configurable isKind payload isCirc isLen isV
  have passed : (s.withReady rest).configTest = none := State.configTest_none configurable
  have hc := nat16_lt c1 c0
  have hl := nat16_lt l1 l0
  rw [nat16_eq, ← isCirc] at hc
  rw [nat16_eq, ← isLen] at hl
  have refused : (outside 100 65535 (nat16 c1 c0) || outside 100 65535 (nat16 l1 l0) || outside 4 64 nc.toNat ||
      outside 1 32 nr.toNat) = true ↔
      circ < 100 ∨ len < 100 ∨ nc.toNat < 4 ∨ 64 < nc.toNat ∨ nr.toNat < 1 ∨ 32 < nr.toNat := by
    simp only [Bool.or_eq_true, outside_iff, nat16_eq, ← isCirc, ← isLen]
    omega
  have ofRow : kindIs 0x07#8 f = true := beq_iff_eq.mpr isKind
  refine ⟨fun bad => takes.answers rfl ofRow ?_, fun h1 h2 h3 h4 h5 h6 => takes.answers rfl ofRow ?_⟩
  · rw [payload]
    simp only [geometrySetRule, geometryStore, passed, if_pos (refused.mpr bad)]
    rfl
  · have clamped : outside 500 9999 (nat16 v1 v0) = true ↔ v < 500 ∨ 9999 < v := by
      rw [outside_iff, nat16_eq, ← isV]
    rw [payload]
    simp only [geometrySetRule, geometryStore, passed, doneOr_of_iff clamped]
    rw [if_neg (by rw [refused]; omega)]
    subst isCirc isLen isV
    rfl

end Sys2Proof
end

section
/-! PROOFS. The requests that set sensors, windows, zones and the map's criteria (05, 06), and those that read the map,
the baseline and the status (06, 07, 09). -/

namespace Sys2Proof.Machine

theorem onOff_toNat (b : Bool) : onOff b.toNat = some b := by cases b <;> rfl

theorem onOff_none {n : Nat} (above : 1 < n) : onOff n = none := by
  unfold onOff
  split <;> first | omega | rfl

/-- The CLAMPED test of a rectangle (R92, R94). -/
theorem spanClamped_iff (nc nr colSpan row rowSpan : Nat) : spanClamped nc nr colSpan row rowSpan = true ↔
    colSpan = 0 ∨ nc < colSpan ∨ rowSpan = 0 ∨ nr - row < rowSpan := by
  simp only [spanClamped, Bool.or_eq_true, outside_iff]
  omega

theorem SectorMode.of_code {n : Nat} (m : SectorMode)
    (code : n = match m with | .block => 0 | .paired => 1 | .quad => 2) : sectorOf n = some m := by
  subst code
  cases m <;> rfl

theorem sectorOf_none {n : Nat} (above : 2 < n) : sectorOf n = none := by
  unfold sectorOf
  split <;> first | omega | rfl

/-! ### Sensors, windows and zones, past the configuration test (R90, R92, R94) -/

section
variable {s : State} (passed : s.configTest = none)
include passed

theorem sensorPlaceStore_of_bad {ch : Nat} (bad : 15 < ch ∨ s.loc.geom = none) (action x z : Nat) :
    sensorPlaceStore ch action x z s = refuse s .range := by
  simp only [sensorPlaceStore, passed]
  split
  · next number =>
    rw [bad.resolve_left (by omega)]
  · rfl

theorem sensorPlaceStore_of_action {action : Nat} (unlisted : action ≠ 1) (ch x z : Nat) :
    sensorPlaceStore ch action x z s = refuse s .range := by
  simp only [sensorPlaceStore, passed]
  split
  · split
    · rfl
    · exact if_pos (.inl unlisted)
  · rfl

theorem sensorPlaceStore_of_loaded {ch : Nat} {c : Chan} {g : Geometry} (isC : ch = c.val) (loaded : s.loc.geom = some g)
    (action x z : Nat) : sensorPlaceStore ch action x z s =
      if action ≠ 1 ∨ g.circ ≤ x ∨ g.len < z then refuse s .range
      else (s.setGeom (g.put c (some ⟨x, z⟩)), .done, []) := by
  subst isC
  simp only [sensorPlaceStore, passed, dif_pos c.isLt, loaded]

theorem sensorUnplaceStore_of_bad {ch : Nat} (bad : 15 < ch ∨ s.loc.geom = none) :
    sensorUnplaceStore ch s = refuse s .range := by
  simp only [sensorUnplaceStore, passed]
  split
  · next number =>
    rw [bad.resolve_left (by omega)]
  · rfl

theorem sensorUnplaceStore_of_loaded {ch : Nat} {c : Chan} {g : Geometry} (isC : ch = c.val)
    (loaded : s.loc.geom = some g) : sensorUnplaceStore ch s = (s.setGeom (g.put c none), .done, []) := by
  subst isC
  simp only [sensorUnplaceStore, passed, dif_pos c.isLt, loaded]

theorem windowStore_of_bad {ch : Nat} (bad : 15 < ch ∨ s.loc.geom = none) (col colSpan row rowSpan : Nat) :
    windowStore ch col colSpan row rowSpan s = refuse s .range := by
  simp only [windowStore, passed]
  split
  · next number =>
    rw [bad.resolve_left (by omega)]
  · rfl

theorem windowStore_of_loaded {ch : Nat} {c : Chan} {g : Geometry} (isC : ch = c.val) (loaded : s.loc.geom = some g)
    (col colSpan row rowSpan : Nat) : windowStore ch col colSpan row rowSpan s =
      if g.nc ≤ col ∨ g.nr ≤ row then refuse s .range
      else (s.setGeom { g with win := g.win.set c.val (fitRect g.nc g.nr col colSpan row rowSpan) },
        doneOr (spanClamped g.nc g.nr colSpan row rowSpan), []) := by
  subst isC
  simp only [windowStore, passed, dif_pos c.isLt, loaded]

theorem zoneStore_of_bad {zone enable : Nat} (bad : 7 < zone ∨ 1 < enable ∨ s.loc.geom = none)
    (col colSpan row rowSpan : Nat) : zoneStore zone enable col colSpan row rowSpan s = refuse s .range := by
  simp only [zoneStore, passed]
  split
  · next number =>
    rcases bad with above | unlisted | unloaded
    · omega
    · rw [onOff_none unlisted]
    · rw [unloaded]
      split
      · next loaded => cases loaded
      · rfl
  · rfl

theorem zoneStore_of_loaded {zone enable : Nat} {z : Fin 8} {g : Geometry} {on : Bool} (isZ : zone = z.val)
    (loaded : s.loc.geom = some g) (isOn : enable = on.toNat) (col colSpan row rowSpan : Nat) :
    zoneStore zone enable col colSpan row rowSpan s =
      if g.nc ≤ col ∨ g.nr ≤ row then refuse s .range
      else (s.setGeom { g with zones := g.zones.set z.val ⟨on, fitRect g.nc g.nr col colSpan row rowSpan⟩ },
        doneOr (spanClamped g.nc g.nr colSpan row rowSpan), []) := by
  subst isZ isOn
  simp only [zoneStore, passed, dif_pos z.isLt, loaded, onOff_toNat]

end

/-! ### MAP READ (R128) -/

theorem replicate_zero_be (n : Nat) : List.replicate n 0#8 = be n 0 := by
  induction n with
  | zero => rfl
  | succ n ih => rw [be, List.replicate_succ', ih, Nat.zero_div]

/-! ### BASELINE READ (R149) -/

/-- The velocity map's byte, four pairs of two bits (11.4). -/
theorem packPairs_four (a b c d : Nat) : packPairs [a, b, c, d] = a + 4 * b + 16 * c + 64 * d := by
  simp only [packPairs]
  omega

/-- The velocity map's bytes (11.4). -/
theorem velocityMap_eq {res : Vector PairResult 256} {vel : Nat → Nat}
    (isVel : ∀ i : Fin 256, vel i.val = match (res[i]).vel with | .absent => 0 | .valid _ => 1 | .invalid _ => 2) :
    velocityMap res = (List.range 64).flatMap fun k =>
      be 1 (vel (4 * k) + 4 * vel (4 * k + 1) + 16 * vel (4 * k + 2) + 64 * vel (4 * k + 3)) := by
  have code (n : Nat) (h : n < 256) : (res[Fin.ofNat 256 n]).vel.code = vel n := by
    have same : (Fin.ofNat 256 n).val = n := Nat.mod_eq_of_lt h
    rw [← congrArg vel same, isVel]
    cases (res[Fin.ofNat 256 n]).vel <;> rfl
  unfold velocityMap
  refine List.flatMap_congr fun k hk => ?_
  have small : k < 64 := List.mem_range.mp hk
  have four : List.range 4 = [0, 1, 2, 3] := rfl
  rw [four, List.map_cons, List.map_cons, List.map_cons, List.map_cons, List.map_nil, packPairs_four,
    code _ (by omega), code _ (by omega), code _ (by omega), code _ (by omega)]
  rfl

theorem allPairs_flatMap {α : Type} (f : Fin 256 → List α) :
    allPairs.flatMap f = allChans.flatMap fun p => allChans.flatMap fun l => f (pairIndex p l) := by
  rw [allPairs, List.flatMap_assoc]
  simp only [List.flatMap_map]

end Sys2Proof.Machine

namespace Sys2Proof

open Machine

/-- Settles O34: past the configuration test each number, action, enable and base is in its range or not. -/
theorem sensorWindowAndZoneSet : Obligations.SensorWindowAndZoneSet := by
  refine ⟨fun s f rest ch action s1 s0 z1 z0 x z takes configurable isKind payload isX isZ => ?_,
    fun s f rest n en col cs row rs takes configurable => ⟨fun isKind payload => ?_, fun isKind payload => ?_⟩⟩
  · have passed : (s.withReady rest).configTest = none := State.configTest_none configurable
    refine ⟨fun place => ?_, fun unplace => ?_, fun noUnplace noPlace => ?_⟩
    · have ofRow : isPlace f = true := isPlace_of_action isKind payload (by rw [place]; decide)
      have asked : action.toNat = 1 := by rw [place]; rfl
      refine ⟨fun bad => takes.answers (isRow := isPlace) rfl ofRow ?_, fun c g isC loaded =>
        ⟨fun off => takes.answers (isRow := isPlace) rfl ofRow ?_,
          fun inS inZ => takes.answers (isRow := isPlace) rfl ofRow ?_⟩⟩
      · rw [payload]
        exact sensorPlaceStore_of_bad passed (bad.imp_right fun e => e) _ _ _
      · rw [payload]
        refine (sensorPlaceStore_of_loaded passed isC loaded _ _ _).trans (if_pos (.inr ?_))
        rwa [nat16_eq, nat16_eq, ← isX, ← isZ]
      · rw [payload]
        refine (sensorPlaceStore_of_loaded passed isC loaded _ _ _).trans ?_
        rw [nat16_eq, nat16_eq, ← isX, ← isZ, if_neg (by omega)]
        rfl
    · have ofRow : isUnplace f = true := by rw [isUnplace_eq isKind payload, unplace]; rfl
      refine ⟨fun bad => takes.answers (isRow := isUnplace) rfl ofRow ?_, fun c g isC loaded =>
        takes.answers (isRow := isUnplace) rfl ofRow ?_⟩
      · rw [payload]
        exact sensorUnplaceStore_of_bad passed bad
      · rw [payload]
        exact sensorUnplaceStore_of_loaded passed isC loaded
    · refine takes.answers (isRow := isPlace) rfl (isPlace_of_action isKind payload noUnplace) ?_
      rw [payload]
      exact sensorPlaceStore_of_action passed (fun e => noPlace (BitVec.eq_of_toNat_eq e)) _ _ _
  · have ofRow : kindIs 0x09#8 f = true := beq_iff_eq.mpr isKind
    have passed : (s.withReady rest).configTest = none := State.configTest_none configurable
    refine ⟨fun bad => takes.answers rfl ofRow ?_, fun c g isC loaded =>
      ⟨fun off => takes.answers rfl ofRow ?_, fun inCols inRows => takes.answers rfl ofRow ?_⟩⟩
    · rw [payload]
      exact windowStore_of_bad passed bad _ _ _ _
    · rw [payload]
      exact (windowStore_of_loaded passed isC loaded _ _ _ _).trans (if_pos off)
    · rw [payload]
      refine (windowStore_of_loaded passed isC loaded _ _ _ _).trans ?_
      rw [if_neg (by omega), doneOr_of_iff (spanClamped_iff _ _ _ _ _)]
      rfl
  · have ofRow : kindIs 0x0A#8 f = true := beq_iff_eq.mpr isKind
    have passed : (s.withReady rest).configTest = none := State.configTest_none configurable
    refine ⟨fun bad => takes.answers rfl ofRow ?_, fun z g on isZ loaded isOn =>
      ⟨fun off => takes.answers rfl ofRow ?_, fun inCols inRows => takes.answers rfl ofRow ?_⟩⟩
    · rw [payload]
      exact zoneStore_of_bad passed bad _ _ _ _
    · rw [payload]
      exact (zoneStore_of_loaded passed isZ loaded isOn _ _ _ _).trans (if_pos off)
    · rw [payload]
      refine (zoneStore_of_loaded passed isZ loaded isOn _ _ _ _).trans ?_
      rw [if_neg (by omega), doneOr_of_iff (spanClamped_iff _ _ _ _ _)]
      rfl

/-- Settles O37: the six items stored, and the two clears, each by its one test. -/
theorem clusterSetAndClears : Obligations.ClusterSetAndClears := by
  intro s f rest takes
  refine ⟨fun isKind => ⟨fun bad =>
      takes.answers (isRow := kindIs 0x0C#8) rfl (beq_iff_eq.mpr isKind) (clusterSetRule_length _ _ bad),
    fun w1 w0 h1 h0 r1 r0 mode lines hold payload => ⟨fun bad => ?_, fun m on en isOn isMode isEn => ?_⟩⟩,
    fun isKind => ⟨fun given => ?_, fun none => ?_⟩, fun isKind => ⟨fun given => ?_, fun none freezing => ?_,
      fun none going => ?_⟩⟩
  · refine takes.answers (isRow := kindIs 0x0C#8) rfl (beq_iff_eq.mpr isKind) ?_
    rw [payload]
    simp only [clusterSetRule, clusterStore]
    rcases bad with above | above
    · rw [sectorOf_none above]
      rfl
    · rw [onOff_none above]
      split <;> simp_all [refuse]
  · refine takes.answers (isRow := kindIs 0x0C#8) rfl (beq_iff_eq.mpr isKind) ?_
    have enables : (Vector.ofFn fun n : Fin 4 => lines.toNat.testBit n.val) = en := by
      apply Vector.ext
      intro i hi
      rw [Vector.getElem_ofFn]
      exact (isEn ⟨i, hi⟩).symm
    rw [payload]
    simp only [clusterSetRule, clusterStore, SectorMode.of_code m isMode, isOn, onOff_toNat, enables]
    rfl
  · exact takes.answers (isRow := kindIs 0x11#8) rfl (beq_iff_eq.mpr isKind) (noPayload_of_ne_nil _ given _)
  · refine takes.answers (isRow := kindIs 0x11#8) rfl (beq_iff_eq.mpr isKind) ?_
    rw [none]
    rfl
  · exact takes.answers (isRow := kindIs 0x12#8) rfl (beq_iff_eq.mpr isKind) (noPayload_of_ne_nil _ given _)
  · refine takes.answers (isRow := kindIs 0x12#8) rfl (beq_iff_eq.mpr isKind) ?_
    have freezing' : (s.withReady rest).ctl.run = .freezing := freezing
    rw [none]
    simp only [mapClearRule, noPayload_nil, freezing']
    rfl
  · refine takes.answers (isRow := kindIs 0x12#8) rfl (beq_iff_eq.mpr isKind) ?_
    have going' : (s.withReady rest).ctl.run ≠ .freezing := going
    rw [none]
    rw [mapClearRule, noPayload_nil]
    split
    · next freezing => exact absurd freezing going'
    · rfl

/-- Settles O38: the count's test, and each position inside the grid or off it. -/
theorem mapReadGivesEntries : Obligations.MapReadGivesEntries := by
  intro s f rest takes isKind
  have ofRow : kindIs 0x13#8 f = true := beq_iff_eq.mpr isKind
  refine ⟨fun bad => takes.answers rfl ofRow (mapReadRule_length _ _ bad), fun col n row k payload =>
    ⟨fun bad => takes.answers rfl ofRow ?_, fun someCols someRows few => takes.answers rfl ofRow ?_⟩⟩
  · rw [payload]
    exact if_pos bad
  · have served : ¬(n.toNat = 0 ∨ k.toNat = 0 ∨ 32 < n.toNat * k.toNat) := by omega
    rw [payload, mapReadRule, if_neg served]
    refine congrArg (fun l => (s.withReady rest, Result.done, be 1 (n.toNat * k.toNat) ++ l)) ?_
    unfold State.mapEntries State.cellAt
    have geom : (s.withReady rest).loc.geom = s.loc.geom := rfl
    rw [geom]
    cases s.loc.geom with
    | none => simp only [cellBytes, replicate_zero_be]; rfl
    | some g =>
      congr 1
      funext i
      congr 1
      funext j
      dsimp only
      split
      · rfl
      · simp only [cellBytes, replicate_zero_be]
        rfl

/-- Settles O47: the two selectors by their rows, the served bytes entry by entry. -/
theorem baselineReadsServe : Obligations.BaselineReadsServe := by
  intro s f rest head res vel takes isKind isHead isRes isVel
  have headIs : s.baselineHead = head := by
    rw [isHead, State.baselineHead]
    cases s.chk.baselineHeld <;> rfl
  have resIs : s.chk.latest.getD (Vector.replicate 256 PairResult.blank) = res := by
    rw [isRes]
    cases s.chk.latest <;> rfl
  have rowOfOther (other : f.payload ≠ [1#8]) : isBaselineRead f = true := by
    simp [isBaselineRead, kindIs, kindOnly, isKind, other]
  refine ⟨fun bad => ?_, fun b payload notBaseline notLatest => ?_, fun payload => ?_, fun payload => ?_⟩
  · exact takes.answers (isRow := isBaselineRead) rfl (rowOfOther fun e => by rw [e] at bad; exact bad rfl)
      (baselineReadRule_length _ _ bad)
  · refine takes.answers (isRow := isBaselineRead) rfl (rowOfOther fun e => ?_) ?_
    · rw [payload] at e
      exact notLatest (List.cons.inj e).1
    · rw [payload]
      exact if_neg notBaseline
  · refine takes.answers (isRow := isBaselineRead) rfl (rowOfOther (by rw [payload]; decide)) ?_
    rw [payload]
    refine congrArg (fun l => (s.withReady rest, Result.done, l)) ?_
    change s.baselineHead ++ _ = _
    rw [headIs, allPairs_flatMap]
    rfl
  · refine takes.answers (isRow := kindOnly 0x18#8 1#8) rfl (by simp [kindOnly, isKind, payload]) ?_
    refine congrArg (fun l => (s.withReady rest, Result.done, l)) ?_
    change s.baselineHead ++ be 1 s.chk.latest.isSome.toNat ++
      (allPairs.flatMap fun i => latestBytes (s.chk.latest.getD (Vector.replicate 256 PairResult.blank))[i]) ++
      velocityMap (s.chk.latest.getD (Vector.replicate 256 PairResult.blank)) = _
    have present : be 1 s.chk.latest.isSome.toNat = be 1 (if s.chk.latest = none then 0 else 1) := by
      cases s.chk.latest <;> rfl
    rw [headIs, resIs, allPairs_flatMap, velocityMap_eq isVel, present]
    congr 2
    refine congrArg (fun g => allChans.flatMap g) ?_
    funext p
    refine congrArg (fun g => allChans.flatMap g) ?_
    funext l
    unfold latestBytes
    cases (res[pairIndex p l]).meas <;> cases (res[pairIndex p l]).degraded <;> rfl

/-- Settles O53: the reply's fields as they stand at the take, and the row of the unlisted kinds. -/
theorem statusServedAndUnknownAnswered : Obligations.StatusServedAndUnknownAnswered := by
  intro s f rest takes
  refine ⟨fun isKind given => ?_, fun isKind none => ?_, fun unlisted => ?_⟩
  · exact takes.answers (isRow := kindIs 0x02#8) rfl (beq_iff_eq.mpr isKind) (noPayload_of_ne_nil _ given _)
  · refine takes.answers (isRow := kindIs 0x02#8) rfl (beq_iff_eq.mpr isKind) ?_
    rw [none]
    have served : statusRule [] (s.withReady rest) =
        ((s.withReady rest).clearFlags, .done, (s.withReady rest).statusData) := rfl
    have data : (s.withReady rest).statusData = s.statusData := rfl
    rw [served, data]
    refine Prod.ext rfl (Prod.ext rfl ?_)
    simp only [State.statusData, Pressure.statusBytes, Link.statusBytes, State.levels, levelBytes, State.checkCodes,
      State.faultFlags, State.otherFlags, List.append_assoc]
    cases s.chk.check <;> rfl
  · refine takes.answers (isRow := fun f => !isRequestKind f) rfl ?_ rfl
    simp only [isRequestKind, Bool.not_eq_true', Bool.and_eq_false_iff, decide_eq_false_iff_not]
    rcases unlisted with zero | above
    · exact .inl (by rw [zero]; decide)
    · exact .inr (by omega)

end Sys2Proof
end

section
/-! PROOFS. The hit list's order and the drop range (03), and the associator's decisions and closes (04). -/

namespace Sys2Proof.Machine

/-! ### The list (R44, R46, R47) -/

theorem insertEntry_perm (e : Entry) (l : List Entry) : (insertEntry e l).Perm (e :: l) := by
  induction l with
  | nil => exact .refl _
  | cons x l ih =>
    simp only [insertEntry]
    split
    · exact (ih.cons x).trans (.swap e x l)
    · exact .refl _

/-- The first entry that is not taken waits, if it is settled (R46, R53). -/
theorem State.firstWaiting_of_append {s : State} {pre post : List Entry} {r : HitRec}
    (list : s.hitList = pre ++ ⟨r, false⟩ :: post) (taken : ∀ x ∈ pre, x.taken = true)
    (settled : ∀ h, s.horizon = some h → r.arrival < h) : s.firstWaiting = some ⟨r, false⟩ :=
  (s.firstWaiting_eq_some _).mpr ⟨firstNotTaken_iff.mpr ⟨rfl, pre, post, list, taken⟩,
    (s.settled_iff _).mpr ((s.past_iff _).mp settled)⟩

/-- Where it is not settled, none waits (R52). -/
theorem State.firstWaiting_of_unsettled {s : State} {pre post : List Entry} {r : HitRec} {h : Nat}
    (list : s.hitList = pre ++ ⟨r, false⟩ :: post) (taken : ∀ x ∈ pre, x.taken = true)
    (horizon : s.horizon = some h) (late : h ≤ r.arrival) : s.firstWaiting = none := by
  have first : s.hitList.find? (fun x => !x.taken) = some ⟨r, false⟩ :=
    firstNotTaken_iff.mpr ⟨rfl, pre, post, list, taken⟩
  have unsettled : s.settled r.arrival = false := by simpa [State.settled, horizon] using late
  simp [State.firstWaiting, first, unsettled]

theorem State.firstWaiting_of_taken {s : State} (taken : ∀ x ∈ s.hitList, x.taken = true) :
    s.firstWaiting = none := by
  have none : s.hitList.find? (fun x => !x.taken) = none := by simpa [List.find?_eq_none] using taken
  simp [State.firstWaiting, none]

theorem State.handOver_of_none {s : State} (none : s.firstWaiting = none) : s.handOver = s := by
  simp only [State.handOver, none]

theorem State.handOver_of_some {s : State} {e : Entry} (first : s.firstWaiting = some e) :
    s.handOver = (s.decideEntry e.record).moveTo e.record.arrival := by
  simp only [State.handOver, first]

/-! ### The decisions (R66 to R69) -/

theorem State.barred_iff (s : State) (c : Chan) : s.barred c = true ↔
    (s.ch c).cfg.role = .monitor ∨ (s.chk.policy = .excludePoor ∧ s.chk.verdicts[c] = .poor) := by
  simp [State.barred]

/-- A lone release of the first waiting entry, the position then at its arrival (R54, R71, R73). -/
theorem State.releaseEntry_moveTo {s : State} {pre post : List Entry} {r : HitRec}
    (list : s.hitList = pre ++ ⟨r, false⟩ :: post) (taken : ∀ x ∈ pre, x.taken = true) (why : LoneReason) :
    (s.releaseEntry r why).moveTo r.arrival = State.report
      (State.setCh
        { s with
          hitList := pre ++ post
          assoc := { s.assoc with position := r.arrival }
          dropRange := clearDrop r.arrival s.assoc.w s.dropRange }
        r.channel { s.ch r.channel with lone := min 4294967295 ((s.ch r.channel).lone + 1) })
      (.hit r why) := by
  rw [State.releaseEntry, list, dropFirst_append taken rfl]
  rfl

theorem State.decideEntry_of_closed {s : State} (closed : s.assoc.openEvent = none) (r : HitRec) :
    s.decideEntry r = s.decideClosed r := by
  simp only [State.decideEntry, closed]

theorem State.decideEntry_of_within {s : State} {o : OpenEvent} (opened : s.assoc.openEvent = some o) {r : HitRec}
    (within : r.arrival ≤ o.windowEnd) : s.decideEntry r = s.decideOpen r := by
  simp only [State.decideEntry, opened, if_pos within]

theorem State.decideEntry_of_beyond {s : State} {o : OpenEvent} (opened : s.assoc.openEvent = some o) {r : HitRec}
    (beyond : o.windowEnd < r.arrival) : s.decideEntry r = (s.close o).decideClosed r := by
  simp only [State.decideEntry, opened, if_neg (Nat.not_le.mpr beyond)]

/-- A channel has a member of the open event (R68). -/
theorem State.hasMember_iff (s : State) (c : Chan) : (s.taken.any fun m => decide (m.channel = c)) = true ↔
    ∃ x ∈ s.hitList, x.taken = true ∧ x.record.channel = c := by
  simp [State.taken]

end Sys2Proof.Machine

namespace Sys2Proof

open Machine

/-- Settles O25: the insertion by the list's recursion, each rule of the drop range by its cases. -/
theorem hitListKeepsOrderAndDropRange : Obligations.HitListKeepsOrderAndDropRange := by
  refine ⟨fun e l order => ⟨insertEntry_ordered order, insertEntry_perm e l⟩, fun a t f e w lo hi => ?_⟩
  refine ⟨rfl, rfl, rfl, rfl, rfl, rfl, fun h => rfl, rfl, by simp [meetsDrop], fun h => by simp [meetsDrop], rfl, rfl,
    fun h => ⟨fun past => if_pos past, fun still => if_neg (Nat.not_lt.mpr still)⟩⟩

/-- Settles O26: the first waiting entry is decided with no event open, by its two tests in order. -/
theorem handOverWithNoEventOpen : Obligations.HandOverWithNoEventOpen := by
  intro s pre post r barred running closed list taken settled isBarred
  rw [← s.barred_iff] at isBarred
  have ran : exec .handOver s = .next ((s.decideClosed r).moveTo r.arrival) := by
    have live : exec .handOver s = .next s.handOver := live_of_running _ running
    rw [live, State.handOver_of_some (State.firstWaiting_of_append list taken settled),
      State.decideEntry_of_closed closed]
  rw [ran]
  refine ⟨fun why because => ?_, fun late free => ?_⟩
  · rw [← State.releaseEntry_moveTo list taken]
    rcases because with ⟨rfl, early⟩ | ⟨rfl, late, bar⟩
    · rw [State.decideClosed, if_pos early]
    · rw [State.decideClosed, if_neg (Nat.not_lt.mpr late), if_pos (isBarred.mp bar)]
  · rw [State.decideClosed, if_neg (Nat.not_lt.mpr late), if_neg fun b => free (isBarred.mpr b), list,
      takeFirst_append taken rfl]
    rfl

/-- Settles O27: within the window the three tests in order. -/
theorem handOverWithinTheWindow : Obligations.HandOverWithinTheWindow := by
  intro s pre post r o barred repeated full running opened within list taken settled isBarred isRepeated isFull
  rw [← s.barred_iff] at isBarred
  rw [← s.hasMember_iff] at isRepeated
  have count : (s.hitList.filter (·.taken)).length = s.taken.length := by simp [State.taken]
  rw [count] at isFull
  have isFull : full ↔ Config.maxMembers ≤ s.taken.length := isFull
  have ran : exec .handOver s = .next ((s.decideOpen r).moveTo r.arrival) := by
    have live : exec .handOver s = .next s.handOver := live_of_running _ running
    rw [live, State.handOver_of_some (State.firstWaiting_of_append list taken settled),
      State.decideEntry_of_within opened within]
  rw [ran]
  refine ⟨fun why because => ?_, fun single room free => ?_⟩
  · rw [← State.releaseEntry_moveTo list taken]
    rcases because with ⟨rfl, again⟩ | ⟨rfl, single, eight⟩ | ⟨rfl, single, room, bar⟩
    · rw [State.decideOpen, if_pos (isRepeated.mp again)]
    · rw [State.decideOpen, if_neg fun h => single (isRepeated.mpr h), if_pos (isFull.mp eight)]
    · rw [State.decideOpen, if_neg fun h => single (isRepeated.mpr h), if_neg fun h => room (isFull.mpr h),
        if_pos (isBarred.mp bar)]
  · rw [State.decideOpen, if_neg fun h => single (isRepeated.mpr h), if_neg fun h => room (isFull.mpr h),
      if_neg fun h => free (isBarred.mpr h), list, takeFirst_append taken rfl]
    rfl

end Sys2Proof

namespace Sys2Proof.Machine

/-! ### The horizon (R50, R55) -/

/-- The horizon, where it is bounded, is the least of the tick and of what is held (R50). -/
theorem State.horizon_least {s : State} (bounded : s.HasHorizon) :
    ∃ h, s.horizon = some h ∧ (h = s.tick ∨ s.Holds h) ∧ h ≤ s.tick ∧ ∀ a, s.Holds a → h ≤ a := by
  obtain ⟨h, horizon⟩ : ∃ h, s.horizon = some h := by
    simp [State.horizon, s.bounded_iff.mpr bounded]
  have past (a : Nat) : a < h ↔ a < s.tick ∧ ∀ b, s.Holds b → a < b := by
    have p := s.past_iff a
    simpa [horizon, State.Past, bounded] using p
  have least (a : Nat) (held : s.Holds a) : h ≤ a := by
    by_contra below
    exact Nat.lt_irrefl a (((past a).mp (Nat.not_le.mp below)).2 a held)
  have tick : h ≤ s.tick := by
    by_contra below
    exact Nat.lt_irrefl s.tick ((past s.tick).mp (Nat.not_le.mp below)).1
  refine ⟨h, horizon, ?_, tick, least⟩
  by_contra neither
  rw [not_or] at neither
  have before : h < h := (past h).mpr ⟨Nat.lt_of_le_of_ne tick neither.1, fun b held =>
    Nat.lt_of_le_of_ne (least b held) fun e => neither.2 (e ▸ held)⟩
  exact Nat.lt_irrefl h before

theorem State.horizon_of_unbounded {s : State} (unbounded : ¬s.HasHorizon) : s.horizon = none := by
  rw [← s.bounded_iff] at unbounded
  simp [State.horizon, unbounded]

theorem State.horizonPast_iff (s : State) (a : Nat) :
    s.horizonPast a = true ↔ ∀ h, s.horizon = some h → a < h := by
  unfold State.horizonPast
  cases s.horizon <;> simp

/-- A close leaves the first waiting entry waiting (R53, R69). -/
theorem State.firstWaiting_close {s : State} {e : Entry} (waits : s.firstWaiting = some e) (o : OpenEvent) :
    (s.close o).firstWaiting = some e := by
  rw [State.firstWaiting_eq_some] at waits ⊢
  rw [State.settled_iff] at waits ⊢
  exact ⟨State.close_first waits.1 o, (s.close_sameChannels o).past waits.2⟩

/-! ### CLOSE_BY_HORIZON (R70, R71) -/

theorem State.closeByHorizon_of_past {s : State} {o : OpenEvent} (opened : s.assoc.openEvent = some o)
    (none : s.firstWaiting = none) (past : ∀ h, s.horizon = some h → o.windowEnd < h) :
    s.closeByHorizon = (s.close o).moveTo o.windowEnd := by
  have reached := (s.horizonPast_iff o.windowEnd).mpr past
  simp [State.closeByHorizon, opened, none, reached]

theorem State.closeByHorizon_of_short {s : State} {o : OpenEvent} {h : Nat} (opened : s.assoc.openEvent = some o)
    (horizon : s.horizon = some h) (short : h ≤ o.windowEnd) : s.closeByHorizon = s := by
  have held : s.horizonPast o.windowEnd = false := by simpa [State.horizonPast, horizon] using short
  simp [State.closeByHorizon, opened, held]

theorem State.closeByHorizon_of_waiting {s : State} {e : Entry} (waits : s.firstWaiting = some e) :
    s.closeByHorizon = s := by
  unfold State.closeByHorizon
  split
  · rfl
  · simp [waits]

/-! ### The close (R72 to R79) -/

/-- The members leave the list, and no event is open (R54). -/
def State.emptied (s : State) : State :=
  { s with
    hitList := s.hitList.filter fun e => !e.taken
    assoc := { s.assoc with openEvent := none } }

theorem State.close_of_one {s : State} {r : HitRec} (one : s.taken = [r]) (o : OpenEvent) :
    s.close o = s.emptied.lone r (if o.guarded then .guard else .single) := by
  simp only [State.close, one]
  rfl

theorem State.close_of_more {s : State} {first second : HitRec} {more : List HitRec}
    (members : s.taken = first :: second :: more) (o : OpenEvent) :
    s.close o = s.emptied.closeEvent o first (first :: second :: more) := by
  simp only [State.close, members]
  rfl

/-- A GUARDED event is reported at once (R77). -/
theorem State.closeEvent_of_guarded (s : State) {o : OpenEvent} (guarded : o.guarded = true) (first : HitRec)
    (ms : List HitRec) : s.closeEvent o first ms =
      (s.numberEvent o).report (.event (eventOf s.assoc.eventNo o s.dropRange .guarded first ms)) := by
  simp only [State.closeEvent, guarded, if_true]

theorem State.closeEvent_of_open (s : State) {o : OpenEvent} (free : o.guarded = false) (first : HitRec)
    (ms : List HitRec) : s.closeEvent o first ms =
      (s.numberEvent o).routeEvent (eventOf s.assoc.eventNo o s.dropRange .undecided first ms) first ms := by
  simp only [State.closeEvent, free, Bool.false_eq_true, if_false]

/-- An event that no route takes to the locator is reported UNLOCATED (R78). -/
theorem State.routeEvent_of_some {s : State} {first : HitRec} {ms : List HitRec} {why : UnlocatedReason}
    (route : s.route first ms = some why) (e : EventRec) : s.routeEvent e first ms =
      State.report { s with map := s.map.countZone e } (.event { e with state := .unlocated why }) := by
  simp only [State.routeEvent, route]

theorem State.routeEvent_of_none {s : State} {first : HitRec} {ms : List HitRec}
    (route : s.route first ms = none) (e : EventRec) : s.routeEvent e first ms =
      { s with map := s.map.countZone e, loc := { s.loc with queue := s.loc.queue ++ [e] } } := by
  simp only [State.routeEvent, route]

theorem State.closeEvent_inReset (s : State) (o : OpenEvent) (first : HitRec) (ms : List HitRec) :
    (s.closeEvent o first ms).inReset = s.inReset := by
  unfold State.closeEvent State.routeEvent
  dsimp only
  split
  · rfl
  · split <;> rfl

theorem State.close_inReset (s : State) (o : OpenEvent) : (s.close o).inReset = s.inReset := by
  unfold State.close
  dsimp only
  split
  · rfl
  · rfl
  · exact State.closeEvent_inReset _ _ _ _

theorem Locator.placed_iff (l : Locator) (c : Chan) :
    l.placed c = true ↔ ∃ g p, l.geom = some g ∧ g.pos[c] = some p := by
  unfold Locator.placed Locator.position
  cases l.geom with
  | none => simp
  | some g => simp [Option.isSome_iff_exists]

end Sys2Proof.Machine

namespace Sys2Proof

open Machine

/-- Settles O28: beyond the window the close comes first, and the horizon closes; the horizon is the least of what is
held. -/
theorem openEventCloses : Obligations.OpenEventCloses := by
  have handOver (s : State) (running : s.inReset = false) : exec .handOver s = .next s.handOver :=
    live_of_running _ running
  have byHorizon (s : State) (running : s.inReset = false) : exec .closeByHorizon s = .next s.closeByHorizon :=
    live_of_running _ running
  refine ⟨fun s running => ⟨fun e o waits opened beyond => ?_, fun taken => ?_, fun pre post r h list taken horizon late
    => ?_⟩, fun s running => ⟨fun o opened none past => ?_, fun o h opened horizon short => ?_, fun e waits => ?_,
    fun closed => ?_⟩, fun s e => ?_, fun s held isHeld => ⟨fun bounded => ?_, fun unbounded => ?_⟩⟩
  · have still := State.firstWaiting_close waits o
    have closed := s.close_openEvent o
    have running' : (s.close o).inReset = false := (s.close_inReset o).trans running
    refine ⟨?_, closed, still⟩
    rw [handOver _ running, handOver _ running', State.handOver_of_some waits, State.handOver_of_some still,
      State.decideEntry_of_beyond opened beyond, State.decideEntry_of_closed closed]
  · rw [handOver s running, State.handOver_of_none (State.firstWaiting_of_taken taken)]
  · rw [handOver s running, State.handOver_of_none (State.firstWaiting_of_unsettled list taken horizon late)]
  · exact ⟨_, rfl, by rw [byHorizon s running, State.closeByHorizon_of_past opened none past]; rfl⟩
  · rw [byHorizon s running, State.closeByHorizon_of_short opened horizon short]
  · rw [byHorizon s running, State.closeByHorizon_of_waiting waits]
  · rw [byHorizon s running]
    simp only [State.closeByHorizon, closed]
  · rw [State.firstWaiting_eq_some, State.settled_iff, ← s.past_iff]
    exact ⟨fun ⟨first, settled⟩ => ⟨(firstNotTaken_iff.mp first).1, (firstNotTaken_iff.mp first).2, settled⟩,
      fun ⟨waits, place, settled⟩ => ⟨firstNotTaken_iff.mpr ⟨waits, place⟩, settled⟩⟩
  · have has : s.HasHorizon := bounded.imp_right fun ⟨freezing, holds⟩ => ⟨freezing, by
      rcases holds with ⟨c, h, e⟩ | waits
      · exact ⟨_, .inl ⟨c, h, e, rfl⟩⟩
      · obtain ⟨r, hr⟩ := List.exists_mem_of_ne_nil s.offers waits
        exact ⟨_, .inr ⟨r, hr, rfl⟩⟩⟩
    have heldIff (a : Nat) : held a ↔ a = s.tick ∨ s.Holds a := by
      rw [isHeld]
      simp only [State.Holds, eq_comm (a := a) (b := HitRec.arrival _), eq_comm (a := a) (b := Hit.arrival _)]
    obtain ⟨h, horizon, isLeast, tick, least⟩ := State.horizon_least has
    refine ⟨h, horizon, (heldIff h).mpr isLeast, fun a ha => ?_⟩
    rcases (heldIff a).mp ha with rfl | ha
    · exact tick
    · exact least a ha
  · refine State.horizon_of_unbounded fun has => ?_
    rcases has with armed | ⟨freezing, a, ⟨c, h, e, -⟩ | ⟨r, hr, -⟩⟩
    · rcases unbounded with u | u | ⟨u, -⟩ <;> exact nomatch armed.symm.trans u
    · rcases unbounded with u | u | ⟨-, free, -⟩
      · exact nomatch freezing.symm.trans u
      · exact nomatch freezing.symm.trans u
      · exact free c h e
    · rcases unbounded with u | u | ⟨-, -, empty⟩
      · exact nomatch freezing.symm.trans u
      · exact nomatch freezing.symm.trans u
      · rw [empty] at hr
        exact nomatch hr

/-- Settles O29: a close with one member, and with more by the guard and the route. -/
theorem closeNumbersAndRoutes : Obligations.CloseNumbersAndRoutes := by
  intro s o
  refine ⟨fun c => s.loc.placed_iff c, fun r one => State.close_of_one one o, fun first second more ms e u taken list
    isEvent isNumbered => ?_⟩
  subst list
  have numbered : s.emptied.numberEvent o = u := isNumbered.symm
  have event : eventOf s.assoc.eventNo o s.dropRange .undecided first (first :: second :: more) = e := isEvent.symm
  rw [State.close_of_more taken]
  refine ⟨fun guarded => ?_, fun free z v isZone isCounted => ?_⟩
  · rw [State.closeEvent_of_guarded _ guarded, numbered, ← event]
    rfl
  · have route : u.route first (first :: second :: more) = s.route first (first :: second :: more) := by
      rw [← numbered]
      rfl
    have loc : u.loc = s.loc := by rw [← numbered]; rfl
    have counted : { u with map := u.map.countZone e } = v := by
      subst isZone isCounted isEvent isNumbered
      rfl
    have closed : s.emptied.closeEvent o first (first :: second :: more) =
        u.routeEvent e first (first :: second :: more) := by
      rw [State.closeEvent_of_open _ free, numbered, ← event]
      rfl
    have told {why : UnlocatedReason} (goes : s.route first (first :: second :: more) = some why) :
        u.routeEvent e first (first :: second :: more) = v.report (.event { e with state := .unlocated why }) := by
      rw [State.routeEvent_of_some (route.trans goes), counted]
    rw [closed]
    refine ⟨fun absent => told (if_pos absent), fun placed => ?_⟩
    have notAbsent : ¬s.loc.placed first.channel = false := by simp [placed]
    refine ⟨fun few => told ((if_neg notAbsent).trans (if_pos few)), fun three => ?_⟩
    refine ⟨fun cap => told ((if_neg notAbsent).trans ((if_neg (Nat.not_lt.mpr three)).trans (if_pos cap))),
      fun room => ?_⟩
    have goes : s.route first (first :: second :: more) = none :=
      (if_neg notAbsent).trans ((if_neg (Nat.not_lt.mpr three)).trans (if_neg (Nat.not_le.mpr room)))
    rw [State.routeEvent_of_none (route.trans goes), loc, ← counted]

end Sys2Proof
end

section
/-! PROOFS. The integer arithmetic (00), the locator's search, start and end (05), and the map's accumulation (06). -/

namespace Sys2Proof.Machine

/-! ### The square root and the magnitude table (00_scope.md) -/

/-- Each bit keeps the root between its bounds; with none left they enclose one integer. -/
theorem isqrtBits_spec (n b r : Nat) (low : r * r ≤ n) (high : n < (r + 2 ^ b) * (r + 2 ^ b)) :
    isqrtBits n b r * isqrtBits n b r ≤ n ∧ n < (isqrtBits n b r + 1) * (isqrtBits n b r + 1) := by
  induction b generalizing r with
  | zero => exact ⟨low, high⟩
  | succ b ih =>
    rw [isqrtBits]
    split
    · next fits =>
      refine ih _ fits ?_
      rwa [Nat.add_assoc, ← Nat.two_mul, ← Nat.pow_succ']
    · next exceeds => exact ih _ low (Nat.not_le.mp exceeds)

theorem isqrt_spec (n : Nat) : isqrt n * isqrt n ≤ n ∧ n < (isqrt n + 1) * (isqrt n + 1) := by
  refine isqrtBits_spec n _ 0 (Nat.zero_le n) ?_
  have bits : n < 2 ^ (n.log2 + 1) := Nat.lt_log2_self
  have halves : 2 ^ (n.log2 + 1) ≤ 2 ^ (n.log2 / 2 + 1 + (n.log2 / 2 + 1)) :=
    Nat.pow_le_pow_right (by omega) (by omega)
  rw [Nat.zero_add, ← Nat.pow_add]
  exact bits.trans_le halves

/-- The table of magnitudes is the least integer not below 10^(n/20). -/
theorem bigM_spec : ∀ n : Fin 91, 10 ^ n.val ≤ bigM n.val ^ 20 ∧ (bigM n.val - 1) ^ 20 < 10 ^ n.val := by
  decide

theorem codeUpTo_le (x k : Nat) : codeUpTo x k ≤ k := by
  induction k with
  | zero => exact Nat.le_refl 0
  | succ k ih =>
    rw [codeUpTo]
    split
    · exact Nat.le_refl _
    · exact ih.trans (Nat.le_succ k)

theorem bigM_codeUpTo {x : Nat} (some : 1 ≤ x) (k : Nat) : bigM (codeUpTo x k) ≤ x := by
  induction k with
  | zero => exact some
  | succ k ih =>
    rw [codeUpTo]
    split
    · next reached => exact reached
    · exact ih

theorem le_codeUpTo {x n k : Nat} (within : n ≤ k) (reached : bigM n ≤ x) : n ≤ codeUpTo x k := by
  induction k with
  | zero => exact within
  | succ k ih =>
    rw [codeUpTo]
    split
    · exact within
    · next short =>
      rcases Nat.le_succ_iff.mp within with h | rfl
      · exact ih h
      · exact absurd reached short

/-! ### The cells of a rectangle (R93) -/

/-- The n-th element of equal rows laid end to end. -/
theorem flatMap_range_getElem? {α : Type} (f : Nat → Nat → α) (rows cols n : Nat) (inside : n < rows * cols) :
    ((List.range rows).flatMap fun i => (List.range cols).map (f i))[n]? = some (f (n / cols) (n % cols)) := by
  have length (rows : Nat) : ((List.range rows).flatMap fun i => (List.range cols).map (f i)).length = rows * cols := by
    simp [List.length_flatMap]
  induction rows with
  | zero => simp at inside
  | succ rows ih =>
    rw [List.range_succ, List.flatMap_append, List.flatMap_singleton]
    by_cases before : n < rows * cols
    · rw [List.getElem?_append_left (by rwa [length]), ih before]
    · obtain ⟨q, rfl⟩ : ∃ q, n = cols * rows + q := ⟨n - cols * rows, by rw [Nat.mul_comm] at before; omega⟩
      have short : q < cols := by rw [Nat.succ_mul, Nat.mul_comm] at inside; omega
      rw [List.getElem?_append_right (by rw [length]; exact Nat.not_lt.mp before), length, Nat.mul_comm rows,
        Nat.add_sub_cancel_left, Nat.mul_add_div (by omega), Nat.mul_add_mod, Nat.div_eq_of_lt short,
        Nat.mod_eq_of_lt short]
      simp [short]

theorem Geometry.cellsOf_getElem? (g : Geometry) (w : Rect) {n : Nat} (inside : n < w.rowSpan * w.colSpan) :
    (g.cellsOf w)[n]? = some ((w.col + n % w.colSpan) % g.nc, w.row + n / w.colSpan) :=
  flatMap_range_getElem? (fun i j => ((w.col + j) % g.nc, w.row + i)) _ _ n inside

theorem Geometry.cellsOf_length (g : Geometry) (w : Rect) : (g.cellsOf w).length = w.rowSpan * w.colSpan := by
  simp [Geometry.cellsOf, List.length_flatMap]

/-- The first cell visited (R93). -/
theorem Geometry.cellsOf_cons {g : Geometry} {w : Rect} (fits : w.Fits g.nc g.nr) :
    ∃ rest, g.cellsOf w = (w.col, w.row) :: rest := by
  have first := g.cellsOf_getElem? w (Nat.mul_pos fits.rows.1 fits.cols.1)
  rw [Nat.zero_mod, Nat.zero_div, Nat.add_zero, Nat.add_zero, Nat.mod_eq_of_lt fits.col] at first
  cases cells : g.cellsOf w with
  | nil => simp [cells] at first
  | cons c rest =>
    simp only [cells, List.getElem?_cons_zero, Option.some.injEq] at first
    exact ⟨rest, by rw [first]⟩

theorem Geometry.mem_cellsOf {g : Geometry} {w : Rect} (fits : w.Fits g.nc g.nr) {c : Nat × Nat}
    (mem : c ∈ g.cellsOf w) : c.1 < g.nc ∧ c.2 < g.nr := by
  simp only [Geometry.cellsOf, List.mem_flatMap, List.mem_map, List.mem_range] at mem
  obtain ⟨i, row, j, -, rfl⟩ := mem
  have top := fits.rows.2
  exact ⟨Nat.mod_lt _ (Nat.zero_lt_of_lt fits.col), by dsimp only; omega⟩

/-! ### The search (R98 to R102) -/

/-- The cell kept by the search is the first of the least among those visited (R99). -/
theorem bestCell_spec (f : Nat × Nat → Nat) (cells pre mid : List (Nat × Nat)) (best : Nat × Nat)
    (before : ∀ c ∈ pre, f best < f c) (after : ∀ c ∈ mid, f best ≤ f c) :
    ∃ pre' post, pre ++ best :: mid ++ cells = pre' ++ bestCell f best cells :: post ∧
      (∀ c ∈ pre', f (bestCell f best cells) < f c) ∧ ∀ c ∈ post, f (bestCell f best cells) ≤ f c := by
  induction cells generalizing pre mid best with
  | nil => exact ⟨pre, mid, by simp [bestCell], before, after⟩
  | cons c cells ih =>
    rw [bestCell, List.foldl_cons, ← bestCell]
    split
    · next less =>
      have kept : ∀ d ∈ pre ++ best :: mid, f c < f d := by
        rw [List.forall_mem_append, List.forall_mem_cons]
        exact ⟨fun d hd => less.trans (before d hd), less, fun d hd => less.trans_le (after d hd)⟩
      have step := ih (pre ++ best :: mid) [] c kept (by simp)
      simpa using step
    · next more =>
      have kept : ∀ d ∈ mid ++ [c], f best ≤ f d := by
        rw [List.forall_mem_append, List.forall_mem_singleton]
        exact ⟨after, Nat.not_lt.mp more⟩
      have step := ih pre (mid ++ [c]) best before kept
      simpa using step

/-- The result of a search stands among the window's cells as the first of the least (R99). -/
theorem Geometry.search_spec (g : Geometry) (v : Nat) (ms : List (Member × Pos)) {w : Rect} (fits : w.Fits g.nc g.nr) :
    ∃ pre post, g.cellsOf w = pre ++ g.search v ms w :: post ∧
      (∀ c ∈ pre, g.residual v ms (g.search v ms w) < g.residual v ms c) ∧
      ∀ c ∈ post, g.residual v ms (g.search v ms w) ≤ g.residual v ms c := by
  obtain ⟨rest, cells⟩ := Geometry.cellsOf_cons fits
  have search : g.search v ms w = bestCell (g.residual v ms) (w.col, w.row) rest := by
    rw [Geometry.search, cells, bestCell, List.foldl_cons, if_neg (Nat.lt_irrefl _), ← bestCell]
  have spec := bestCell_spec (g.residual v ms) rest [] [] (w.col, w.row) (by simp) (by simp)
  rw [search, cells]
  simpa using spec

theorem wrapDelta_eq (circ a b : Nat) :
    wrapDelta circ a b = min (max a b - min a b) (circ - (max a b - min a b)) := by
  unfold wrapDelta
  rw [absDiff_eq]
  split <;> omega

theorem toNat_sq (x : Int) : (x ^ 2).toNat = x.natAbs * x.natAbs := by
  have square : x ^ 2 = ((x.natAbs * x.natAbs : Nat) : Int) := by
    rw [Int.natCast_mul, Int.natAbs_mul_self' x, Int.pow_succ, Int.pow_succ, Int.pow_zero, Int.one_mul]
  rw [square, Int.toNat_natCast]

theorem Geometry.placedMembers_fst (g : Geometry) (ms : List Member) :
    (g.placedMembers ms).map Prod.fst = ms.filter fun m => (g.pos[m.record.channel]).isSome := by
  induction ms with
  | nil => rfl
  | cons m ms ih =>
    unfold Geometry.placedMembers at *
    cases placed : g.pos[m.record.channel] with
    | none =>
      rw [List.filterMap_cons_none (by rw [placed, Option.map_none]), ih, List.filter_cons_of_neg (by simp [placed])]
    | some p =>
      rw [List.filterMap_cons_some (by rw [placed, Option.map_some]), List.map_cons, ih,
        List.filter_cons_of_pos (by simp [placed])]

theorem Geometry.placedMembers_pos {g : Geometry} {ms : List Member} {q : Member × Pos}
    (mem : q ∈ g.placedMembers ms) : g.pos[q.1.record.channel] = some q.2 := by
  obtain ⟨m, -, placed⟩ := List.mem_filterMap.mp mem
  obtain ⟨p, here, rfl⟩ := Option.map_eq_some_iff.mp placed
  exact here

/-- In an ascending list the first that fits is the least that fits. -/
theorem find?_eq_some_of_ascending {n : Nat} (p : Fin n → Bool) {l : List (Fin n)} (ascending : l.Pairwise (· < ·))
    (k : Fin n) : l.find? p = some k ↔ k ∈ l ∧ p k = true ∧ ∀ j ∈ l, j < k → p j = false := by
  induction l with
  | nil => simp
  | cons x l ih =>
    obtain ⟨least, ascending⟩ := List.pairwise_cons.mp ascending
    by_cases fits : p x = true
    · rw [List.find?_cons_of_pos fits, Option.some.injEq]
      constructor
      · rintro rfl
        refine ⟨List.mem_cons_self, fits, fun j hj before => ?_⟩
        rcases List.mem_cons.mp hj with rfl | hj
        · exact absurd before (lt_irrefl j)
        · exact absurd (least j hj) (not_lt.mpr before.le)
      · rintro ⟨mem, -, none⟩
        rcases List.mem_cons.mp mem with rfl | mem
        · rfl
        · exact absurd fits (by simp [none x List.mem_cons_self (least k mem)])
    · rw [List.find?_cons_of_neg fits, ih ascending]
      constructor
      · rintro ⟨mem, fitsK, none⟩
        refine ⟨List.mem_cons_of_mem x mem, fitsK, fun j hj before => ?_⟩
        rcases List.mem_cons.mp hj with rfl | hj
        · simpa using fits
        · exact none j hj before
      · rintro ⟨mem, fitsK, none⟩
        rcases List.mem_cons.mp mem with rfl | mem
        · exact absurd fitsK fits
        · exact ⟨mem, fitsK, fun j hj => none j (List.mem_cons_of_mem x hj)⟩

/-- A cell of the rectangle, its columns wrapped (R93, R95). -/
theorem Geometry.covers_iff (g : Geometry) (r : Rect) (col row : Nat) : g.covers r col row = true ↔
    ∃ j i, j < r.colSpan ∧ i < r.rowSpan ∧ col = (r.col + j) % g.nc ∧ row = r.row + i := by
  simp only [Geometry.covers, Bool.and_eq_true, decide_eq_true_eq, List.any_eq_true, List.mem_range]
  constructor
  · rintro ⟨⟨low, high⟩, j, short, rfl⟩
    exact ⟨j, row - r.row, short, by omega, rfl, by omega⟩
  · rintro ⟨j, i, shortJ, shortI, rfl, rfl⟩
    exact ⟨⟨by omega, by omega⟩, j, shortJ, rfl⟩

theorem Geometry.exclusion_eq (g : Geometry) (col row : Nat) : g.exclusion col row =
    (List.finRange 8).find? fun n => (g.zones[n]).on && g.covers (g.zones[n]).rect col row := rfl

theorem Geometry.border_iff {g : Geometry} {w : Rect} (fits : w.Fits g.nc g.nr) (col row : Nat) :
    g.border w col row = true ↔ row = w.row ∨ row + 1 = w.row + w.rowSpan ∨
      (w.colSpan ≠ g.nc ∧ (col = w.col ∨ col = (w.col + w.colSpan - 1) % g.nc)) := by
  have last : row = w.row + w.rowSpan - 1 ↔ row + 1 = w.row + w.rowSpan := by
    have some := fits.rows.1
    omega
  simp only [Geometry.border, Bool.or_eq_true, Bool.and_eq_true, decide_eq_true_eq, last,
    Nat.mod_eq_of_lt fits.col, or_assoc]

/-- The root of a mean residual in one byte (R100). -/
theorem qualityOf_spec (rm : Nat) : qualityOf rm ≤ 255 ∧ qualityOf rm * qualityOf rm ≤ rm ∧
    (qualityOf rm < 255 → rm < (qualityOf rm + 1) * (qualityOf rm + 1)) := by
  obtain ⟨low, high⟩ := isqrt_spec rm
  have quality : qualityOf rm = min 255 (isqrt rm) := rfl
  refine ⟨by omega, ?_, fun short => ?_⟩
  · have least : qualityOf rm ≤ isqrt rm := by omega
    exact (Nat.mul_le_mul least least).trans low
  · have root : qualityOf rm = isqrt rm := by omega
    rw [root]
    exact high

/-- The lowest-numbered zone in which the cell lies (R95). -/
theorem Geometry.exclusion_spec (g : Geometry) (col row : Nat) (n : Fin 8) {inside : Fin 8 → Prop}
    (isInside : ∀ k, inside k ↔ (g.zones[k]).on = true ∧ ∃ j i, j < (g.zones[k]).rect.colSpan ∧
      i < (g.zones[k]).rect.rowSpan ∧ col = ((g.zones[k]).rect.col + j) % g.nc ∧
      row = (g.zones[k]).rect.row + i) :
    (g.exclusion col row = some n ↔ inside n ∧ ∀ k, k < n → ¬inside k) ∧
      (g.exclusion col row = none ↔ ∀ k, ¬inside k) := by
  have test (k : Fin 8) : ((g.zones[k]).on && g.covers (g.zones[k]).rect col row) = true ↔ inside k := by
    rw [isInside, Bool.and_eq_true, g.covers_iff]
  rw [g.exclusion_eq]
  constructor
  · rw [find?_eq_some_of_ascending _ (List.pairwise_lt_finRange 8)]
    simp only [List.mem_finRange, true_and, true_imp_iff, test, ← Bool.not_eq_true]
  · simp only [List.find?_eq_none, List.mem_finRange, true_imp_iff, test]

/-- The terms of the residual as squares (R98). -/
theorem Geometry.residual_cons (g : Geometry) (v col row : Nat) (first : Member × Pos) (others : List (Member × Pos))
    {T : Pos → Int} (time : ∀ p, T p = travel v (g.dist (g.centre col row) p)) :
    g.residual v (first :: others) (col, row) = min 4294967295 (others.map fun q =>
      min 4294967295 ((((q.1.delta : Int) - first.1.delta - (T q.2 - T first.2)) ^ 2).toNat)).sum := by
  simp only [toNat_sq, time]
  rfl

/-! ### Start and end of a location (R105 to R107) -/

theorem Geometry.placedMembers_length {l : Locator} {g : Geometry} (loaded : l.geom = some g) (ms : List Member) :
    (g.placedMembers ms).length = (ms.filter fun m => l.placed m.record.channel).length := by
  have placed (c : Chan) : l.placed c = (g.pos[c]).isSome := by simp only [Locator.placed, Locator.position, loaded]
  simp only [placed, ← g.placedMembers_fst, List.length_map]

theorem State.locationStart_of_idle {s : State} (none : s.loc.busy ≠ none ∨ s.loc.queue = []) :
    s.locationStart = s := by
  unfold State.locationStart
  split
  · next e rest g free queued _ =>
    rcases none with busy | empty
    · exact absurd free busy
    · exact nomatch queued.symm.trans empty
  · rfl

theorem State.locationEnd_of_left {s : State} {b : Locating} (busy : s.loc.busy = some b) (left : b.left ≠ 0) :
    s.locationEnd = s := by
  simp only [State.locationEnd, busy, left, if_false]

/-- An event that is not LOCATED goes to the report unit (R107). -/
theorem State.locationEnd_of_other {s : State} {b : Locating} (busy : s.loc.busy = some b) (elapsed : b.left = 0)
    {e : EventState} (decided : b.decide = e) (other : e ≠ .located) : s.locationEnd =
      State.report { s with loc := { s.loc with busy := none } }
        (.event { b.event with state := e, loc := some b.part }) := by
  have freed : s.freeLocator b = { s with loc := { s.loc with busy := none } } := by
    simp only [State.freeLocator, decided, other, if_false]
  simp only [State.locationEnd, busy, elapsed, if_true, freed, decided, other, if_false, Locating.result]

theorem State.locationEnd_of_located {s : State} {b : Locating} (busy : s.loc.busy = some b) (elapsed : b.left = 0)
    (decided : b.decide = .located) : s.locationEnd = State.accumulate
      (State.report
        { s with
          loc := { s.loc with busy := none }
          ctl := { s.ctl with located := min 4294967295 (s.ctl.located + 1) } }
        (.event { b.event with state := .located, loc := some b.part }))
      b.geom.nc b.geom.nr { b.event with state := .located, loc := some b.part } b.part := by
  have freed : s.freeLocator b = { s with
      loc := { s.loc with busy := none }
      ctl := { s.ctl with located := min 4294967295 (s.ctl.located + 1) } } := by
    simp only [State.freeLocator, decided, if_true]
    rfl
  simp only [State.locationEnd, busy, elapsed, if_true, freed, decided, Locating.result]

/-- The zone of a part is looked for where the mean residual is within the limit (R102). -/
theorem Locating.part_zone (b : Locating) :
    b.part.zone = if b.part.mean ≤ b.rl then b.geom.exclusion b.part.col b.part.row else none := rfl

theorem Locating.decide_of_beyond {b : Locating} (beyond : b.rl < b.part.mean) : b.decide = .noFit :=
  if_neg (Nat.not_le.mpr beyond)

theorem Locating.decide_of_zone {b : Locating} (within : b.part.mean ≤ b.rl) {z : Fin 8}
    (zone : b.geom.exclusion b.part.col b.part.row = some z) : b.decide = .excluded z := by
  have here : b.part.zone = some z := (if_pos within).trans zone
  simp only [Locating.decide, if_pos within, here]

theorem Locating.decide_of_free {b : Locating} (within : b.part.mean ≤ b.rl)
    (free : b.geom.exclusion b.part.col b.part.row = none) : b.decide = .located := by
  have here : b.part.zone = none := (if_pos within).trans free
  simp only [Locating.decide, if_pos within, here]

/-! ### The neighbourhood (R114) -/

theorem mod_succ {nc j : Nat} (inside : j < nc) : (j + 1) % nc = if j + 1 = nc then 0 else j + 1 := by
  split
  · next last => rw [last, Nat.mod_self]
  · exact Nat.mod_eq_of_lt (by omega)

theorem mod_pred {nc col : Nat} (inside : col < nc) : (col + nc - 1) % nc = if col = 0 then nc - 1 else col - 1 := by
  split
  · next zero => rw [zero, Nat.zero_add, Nat.mod_eq_of_lt (by omega)]
  · rw [show col + nc - 1 = col - 1 + nc by omega, Nat.add_mod_right, Nat.mod_eq_of_lt (by omega)]

theorem mem_neighbourhood {nc nr col row : Nat} (wide : 4 ≤ nc) (inCol : col < nc) (_ : row < nr) (n : Nat) :
    n ∈ neighbourhood nc nr col row ↔ ∃ i j, i < nr ∧ j < nc ∧ n = i * nc + j ∧
      (i = row ∨ i = row + 1 ∨ i + 1 = row) ∧ (j = col ∨ j = (col + 1) % nc ∨ col = (j + 1) % nc) := by
  simp only [neighbourhood, List.mem_flatMap, List.mem_filter, List.mem_dedup, List.mem_map, List.mem_cons,
    List.not_mem_nil, or_false, decide_eq_true_eq]
  rw [mod_succ inCol, mod_pred inCol]
  constructor
  · rintro ⟨i, ⟨rows, inside⟩, j, cols, rfl⟩
    have inJ : j < nc := by
      rcases cols with h | h | h
      · split at h <;> omega
      · omega
      · split at h <;> omega
    refine ⟨i, j, inside, inJ, rfl, by omega, ?_⟩
    rw [mod_succ inJ]
    split_ifs at cols ⊢ <;> omega
  · rintro ⟨i, j, inside, inJ, rfl, rows, cols⟩
    rw [mod_succ inJ] at cols
    refine ⟨i, ⟨by omega, inside⟩, j, ?_, rfl⟩
    split_ifs at cols ⊢ <;> omega

/-- Cells of different rows, or of different columns, are different. -/
theorem cell_inj {nc i j i' j' : Nat} (inJ : j < nc) (inJ' : j' < nc) (same : i * nc + j = i' * nc + j') :
    i = i' ∧ j = j' := by
  have row : i = i' := by
    have h := congrArg (· / nc) same
    simpa [Nat.mul_comm _ nc, Nat.mul_add_div (Nat.zero_lt_of_lt inJ), Nat.div_eq_of_lt inJ, Nat.div_eq_of_lt inJ']
      using h
  subst row
  exact ⟨rfl, Nat.add_left_cancel same⟩

theorem neighbourhood_nodup {nc nr col row : Nat} (wide : 4 ≤ nc) (inCol : col < nc) :
    (neighbourhood nc nr col row).Nodup := by
  have inside {j : Nat} (mem : j ∈ [(col + nc - 1) % nc, col, (col + 1) % nc]) : j < nc := by
    simp only [List.mem_cons, List.not_mem_nil, or_false] at mem
    rcases mem with rfl | rfl | rfl
    · exact Nat.mod_lt _ (by omega)
    · exact inCol
    · exact Nat.mod_lt _ (by omega)
  have columns : [(col + nc - 1) % nc, col, (col + 1) % nc].Nodup := by
    rw [mod_succ inCol, mod_pred inCol]
    simp only [List.nodup_cons, List.mem_cons, List.not_mem_nil, or_false, not_or, not_false_eq_true, List.nodup_nil,
      and_true]
    split <;> split <;> omega
  rw [neighbourhood, List.nodup_flatMap]
  constructor
  · intro i _
    exact columns.map_on fun j hj j' hj' same => (cell_inj (inside hj) (inside hj') same).2
  · refine ((List.nodup_dedup _).filter _).imp fun {i i'} apart => ?_
    intro n mem mem'
    obtain ⟨j, hj, rfl⟩ := List.mem_map.mp mem
    obtain ⟨j', hj', same⟩ := List.mem_map.mp mem'
    exact apart (cell_inj (inside hj') (inside hj) same).1.symm

/-! ### A LOCATED event on the map (R113 to R116, R121, R123) -/

theorem ActMap.cell_setCell (m : ActMap) {i : Nat} (inside : i < m.cells.length) (x : Cell) (k : Nat) :
    (m.setCell i x).cell k = if i = k then x else m.cell k := by
  unfold ActMap.cell ActMap.setCell
  rw [List.getD_eq_getElem?_getD, List.getD_eq_getElem?_getD, List.getElem?_set]
  split
  · next same =>
    subst same
    rfl
  · rfl

theorem ActMap.setCell_setCell (m : ActMap) (i : Nat) (x y : Cell) : (m.setCell i x).setCell i y = m.setCell i y := by
  simp only [ActMap.setCell, List.set_set]

/-- The state of a cell is in no sum (R114). -/
theorem ActMap.sumOver_level (m : ActMap) {i : Nat} (inside : i < m.cells.length) (x : Cell) (new : CellLevel)
    (is : List Nat) {f : Cell → Nat} (free : f { x with level := new } = f x) :
    (m.setCell i { x with level := new }).sumOver is f = (m.setCell i x).sumOver is f := by
  refine congrArg List.sum (List.map_congr_left fun k _ => ?_)
  rw [m.cell_setCell inside, m.cell_setCell inside]
  split
  · exact free
  · rfl

theorem ActMap.sumOver_rise (m : ActMap) (line : Fin 4) (new : CellLevel) (is : List Nat) (f : Cell → Nat) :
    (m.rise line new).sumOver is f = m.sumOver is f := by cases new <;> rfl

theorem ActMap.cell_rise (m : ActMap) (line : Fin 4) (new : CellLevel) (i : Nat) :
    (m.rise line new).cell i = m.cell i := by cases new <;> rfl

theorem CellLevel.higher_of_le {a b : CellLevel} (below : b.code ≤ a.code) : a.higher b = a :=
  if_neg (Nat.not_lt.mpr below)

theorem CellLevel.higher_of_lt {a b : CellLevel} (above : a.code < b.code) : a.higher b = b := if_pos above

theorem ActMap.evaluate_eq (m : ActMap) (se sh sr : Nat) : m.evaluate se sh sr =
    if (m.ah ≠ 0 ∧ m.ah ≤ sh) ∨ (m.ar ≠ 0 ∧ m.ar ≤ sr) then .active
    else if m.we ≠ 0 ∧ m.we ≤ se then .watch else .clear := by
  simp only [ActMap.evaluate, Nat.pos_iff_ne_zero]

theorem Cell.add_eq (x : Cell) (e : EventRec) : x.add e =
    ⟨min 65535 (x.events + 1), if e.phase = .hold then min 65535 (x.hold + 1) else x.hold,
      if e.belowMax = true then min 65535 (x.reload + 1) else x.reload,
      min 4294967295 (x.energy + (e.members.map (·.record.energy)).sum),
      (e.members.map (·.record.amplitude)).foldl max x.amp, e.first, x.level⟩ := by
  rw [List.foldl_map]
  rfl

/-- The state that the event evaluates its cell to, from the sums with the event in them (R115). -/
def ActMap.reached (m : ActMap) (nc nr : Nat) (e : EventRec) (col row : Nat) : CellLevel :=
  let i := row * nc + col
  let m1 := m.setCell i ((m.cell i).add e)
  let ns := neighbourhood nc nr col row
  m1.evaluate (m1.sumOver ns (·.events)) (m1.sumOver ns (·.hold)) (m1.sumOver ns (·.reload))

section
variable (m : ActMap) {nc nr : Nat} {e : EventRec} {col row : Nat} (inside : row * nc + col < m.cells.length)
include inside

/-- The event is added to its cell, whose state then may rise (R113, R115). -/
theorem ActMap.land_eq : m.land nc nr e col row =
    if (m.cell (row * nc + col)).level.higher (m.reached nc nr e col row) = (m.cell (row * nc + col)).level then
      m.setCell (row * nc + col) ((m.cell (row * nc + col)).add e)
    else
      (m.setCell (row * nc + col) { (m.cell (row * nc + col)).add e with
        level := (m.cell (row * nc + col)).level.higher (m.reached nc nr e col row) }).rise (m.lineFor nc col)
          ((m.cell (row * nc + col)).level.higher (m.reached nc nr e col row)) := by
  have added : (m.setCell (row * nc + col) ((m.cell (row * nc + col)).add e)).cell (row * nc + col) =
      (m.cell (row * nc + col)).add e := by rw [m.cell_setCell inside, if_pos rfl]
  unfold ActMap.land
  dsimp only
  rw [added, m.setCell_setCell]
  rfl

theorem ActMap.land_of_same
    (same : (m.reached nc nr e col row).code ≤ (m.cell (row * nc + col)).level.code) :
    m.land nc nr e col row = m.setCell (row * nc + col) ((m.cell (row * nc + col)).add e) := by
  rw [m.land_eq inside, CellLevel.higher_of_le same, if_pos rfl]

theorem ActMap.land_of_rise
    (rises : (m.cell (row * nc + col)).level.code < (m.reached nc nr e col row).code) :
    m.land nc nr e col row = (m.setCell (row * nc + col)
      { (m.cell (row * nc + col)).add e with level := m.reached nc nr e col row }).rise (m.lineFor nc col)
        (m.reached nc nr e col row) := by
  rw [m.land_eq inside, CellLevel.higher_of_lt rises, if_neg fun same => Nat.lt_irrefl _ (same ▸ rises)]

end

theorem State.accumulate_of_same {s : State} {nc nr : Nat} {e : EventRec} {p : LocPart}
    (inside : p.row * nc + p.col < s.map.cells.length)
    (same : (s.map.reached nc nr e p.col p.row).code ≤ (s.map.cell (p.row * nc + p.col)).level.code) :
    s.accumulate nc nr e p = { s with
      map := s.map.setCell (p.row * nc + p.col) ((s.map.cell (p.row * nc + p.col)).add e) } := by
  unfold State.accumulate
  dsimp only
  rw [s.map.land_of_same inside same]
  refine if_pos ?_
  rw [s.map.cell_setCell inside, if_pos rfl]
  rfl

/-- A rise queues the CLUSTER notice, with the sums of the neighbourhood and the outputs after it (R116). -/
theorem State.accumulate_of_rise {s : State} {nc nr : Nat} {e : EventRec} {p : LocPart} {x : Cell} {m : ActMap}
    {ns : List Nat} {new : CellLevel} {u : State} (inside : p.row * nc + p.col < s.map.cells.length)
    (rises : (s.map.cell (p.row * nc + p.col)).level.code < new.code)
    (isNew : new = s.map.reached nc nr e p.col p.row)
    (isCell : x = (s.map.cell (p.row * nc + p.col)).add e) (isMap : m = s.map.setCell (p.row * nc + p.col) x)
    (isArea : ns = neighbourhood nc nr p.col p.row)
    (risen : u = { s with map :=
      (s.map.setCell (p.row * nc + p.col) { x with level := new }).rise (s.map.lineFor nc p.col) new }) :
    s.accumulate nc nr e p = u.notify (.cluster e.number p.col p.row (p.row * nc + p.col)
      (s.map.cell (p.row * nc + p.col)).level new (m.sumOver ns (·.events)) (m.sumOver ns (·.hold))
      (m.sumOver ns (·.reload)) e.pressure e.phase s.press.pMax (s.map.lineFor nc p.col) u.lines u.holdq) := by
  subst isNew isCell isMap isArea risen
  unfold State.accumulate
  dsimp only
  rw [s.map.land_of_rise inside rises]
  simp only [ActMap.cell_rise, ActMap.sumOver_rise, s.map.cell_setCell inside, if_true]
  rw [if_neg fun same => Nat.lt_irrefl _ (same ▸ rises), s.map.sumOver_level inside _ _ _ (f := (·.events)) rfl,
    s.map.sumOver_level inside _ _ _ (f := (·.hold)) rfl, s.map.sumOver_level inside _ _ _ (f := (·.reload)) rfl]

end Sys2Proof.Machine

namespace Sys2Proof

open Machine

/-- Settles O24: the root bit by bit, the table entry by entry, the code downwards from 90. -/
theorem rootAndCodeAreExact : Obligations.RootAndCodeAreExact := by
  refine ⟨isqrt_spec, fun n table => bigM_spec ⟨n, by omega⟩, by decide, fun x => ?_⟩
  exact ⟨codeUpTo_le x 90, fun some => bigM_codeUpTo some 90, fun n table reached => le_codeUpTo table reached⟩

/-- Settles O32: the search keeps the first of the least, and each part of the formulas by its definition. -/
theorem locationIsTheLeastResidual : Obligations.LocationIsTheLeastResidual := by
  refine ⟨fun b p ms w isPart isPlaced isWindow fits => ?_, fun g w fits => ⟨g.cellsOf_length w, fun n inside =>
    g.cellsOf_getElem? w inside⟩, fun g => ⟨fun j i => rfl, fun a b ds dz sum _ _ isDs isDz isSum => ?_,
    fun v d => rfl, fun ms => ⟨g.placedMembers_fst ms, fun q mem => Geometry.placedMembers_pos mem⟩,
    fun v col row first others T time => g.residual_cons v col row first others time,
    fun col row n inside isInside => g.exclusion_spec col row n isInside⟩⟩
  · subst isPart isPlaced isWindow
    obtain ⟨pre, post, cells, before, after⟩ := b.geom.search_spec b.v (b.geom.placedMembers b.event.members) fits
    have here : (b.part.col, b.part.row) ∈ b.geom.cellsOf b.geom.win[b.event.firstChannel] :=
      cells ▸ List.mem_append_right pre List.mem_cons_self
    obtain ⟨inCol, inRow⟩ := Geometry.mem_cellsOf fits here
    obtain ⟨byte, low, high⟩ := qualityOf_spec b.part.mean
    exact ⟨⟨pre, post, cells, before, after⟩, inCol, inRow, rfl, rfl, rfl, byte, low, high, b.part_zone,
      Geometry.border_iff fits _ _⟩
  · have dist : g.dist a b = isqrt sum := by
      rw [Geometry.dist, wrapDelta_eq, ← isDs, absDiff_eq, ← isDz, ← isSum]
    rw [dist]
    exact isqrt_spec sum

/-- Settles O31: the start by what the locator holds, the end by the time left and what is decided. -/
theorem locationStartsAndEnds : Obligations.LocationStartsAndEnds := by
  refine ⟨fun s running => ⟨fun e q g n k free queued loaded isN isK => ?_, fun none => ?_⟩,
    fun s b p running busy isPart => ?_⟩
  · have live : exec .locationStart s = .next s.locationStart := live_of_running _ running
    have started : s.locationStart =
        { s with loc := { s.loc with queue := q, busy := some (Locating.begin g s.loc.v s.assoc.rl e) } } := by
      simp only [State.locationStart, free, queued, loaded]
    rw [live, started, Locating.begin, Geometry.placedMembers_length loaded, ← isK, ← isN, locationTime]
  · have live : exec .locationStart s = .next s.locationStart := live_of_running _ running
    rw [live, State.locationStart_of_idle none]
  · subst isPart
    have live : exec .locationEnd s = .next s.locationEnd := live_of_running _ running
    rw [live]
    refine ⟨fun left => by rw [State.locationEnd_of_left busy left], fun elapsed => ⟨fun beyond => ?_,
      fun within z zone => ?_, fun within free => ?_⟩⟩
    · rw [State.locationEnd_of_other busy elapsed (Locating.decide_of_beyond beyond) (by decide)]
    · rw [State.locationEnd_of_other busy elapsed (Locating.decide_of_zone within zone) (by simp)]
    · rw [State.locationEnd_of_located busy elapsed (Locating.decide_of_free within free)]

/-- Settles O35: the neighbourhood by rows and columns, the accumulation by whether the state of the cell rises. -/
theorem mapAccumulatesOverNeighbourhood : Obligations.MapAccumulatesOverNeighbourhood := by
  refine ⟨fun nc nr col row wide inCol inRow => ⟨neighbourhood_nodup wide inCol, fun n =>
    mem_neighbourhood wide inCol inRow n⟩, ?_⟩
  intro s nc nr e p i se sh sr old x new cells is isIndex inside isOld isCell isCells isArea isEvents isHold isReload
    isNew
  subst isIndex
  have isOld : old = s.map.cell (p.row * nc + p.col) := isOld
  subst isOld
  rw [← Cell.add_eq] at isCell
  have map : s.map.setCell (p.row * nc + p.col) x = { s.map with cells := cells } := by rw [isCells]; rfl
  have events : (s.map.setCell (p.row * nc + p.col) x).sumOver is (·.events) = se := by rw [map, isEvents]; rfl
  have hold : (s.map.setCell (p.row * nc + p.col) x).sumOver is (·.hold) = sh := by rw [map, isHold]; rfl
  have reload : (s.map.setCell (p.row * nc + p.col) x).sumOver is (·.reload) = sr := by rw [map, isReload]; rfl
  have reached : new = s.map.reached nc nr e p.col p.row := by
    unfold ActMap.reached
    dsimp only
    rw [← isCell, ← isArea, events, hold, reload, ActMap.evaluate_eq, isNew]
    rfl
  refine ⟨fun same => ?_, fun rises line u isLine isRisen => ?_⟩
  · rw [reached] at same
    rw [State.accumulate_of_same inside same, ← isCell, map]
  · have line' : line = s.map.lineFor nc p.col := Fin.ext (isLine.trans (by
      unfold ActMap.lineFor lineOf
      rfl))
    have risen : u = { s with map :=
        (s.map.setCell (p.row * nc + p.col) { x with level := new }).rise (s.map.lineFor nc p.col) new } := by
      rw [isRisen, ← line']
      cases new <;> simp [ActMap.rise, ActMap.setCell]
    rw [State.accumulate_of_rise inside rises reached isCell rfl isArea risen, events, hold, reload, line']
    rfl

end Sys2Proof
end

section
/-! PROOFS. The sensor channels (02): samples and missing frames by the state of the channel, the steps at deadlines,
the loss and recovery of a lane, and CHANNEL SET. -/

namespace Sys2Proof.Machine

/-! ### Frames (R18, R30, R40) -/

/-- Lane health, noise and the previous sample after a frame of this magnitude (R18, R40). -/
def Channel.heard (x : Channel) (mag : Nat) : Channel :=
  { (x.validFrame).noiseFrame (some mag) with prevMag := mag, frameSeen := true }

/-- The same after a missing frame (R18, R40). -/
def Channel.missed (x : Channel) : Channel :=
  { (x.missedFrame).noiseFrame none with prevMag := 0, frameSeen := true }

theorem Channel.validFrame_eq (x : Channel) : x.validFrame = { x with
    missingRun := 0
    goodRun := if x.lane = .lost then min 64 (x.goodRun + 1) else x.goodRun } := by
  unfold Channel.validFrame
  cases x.lane <;> rfl

theorem Channel.missedFrame_eq (x : Channel) : x.missedFrame = { x with
    missingRun := min 4 (x.missingRun + 1)
    goodRun := if x.lane = .lost then 0 else x.goodRun } := by
  unfold Channel.missedFrame
  cases x.lane <;> rfl

theorem Channel.heard_of_quiet {x : Channel} (quiet : x.state = .quiet) (good : x.lane = .good) (mag : Nat) :
    x.heard mag = { x with
      missingRun := 0, prevMag := mag, frameSeen := true, blockPos := x.blockPos + 1
      blockSum := x.blockSum + mag } := by
  simp [Channel.heard, Channel.validFrame_eq, Channel.noiseFrame, quiet, good]

theorem Channel.heard_of_hit {x : Channel} {h : Hit} (hit : x.state = .hit h) (good : x.lane = .good) (mag : Nat) :
    x.heard mag = { x with
      missingRun := 0, prevMag := mag, frameSeen := true, blockPos := x.blockPos + 1, blockBad := true } := by
  simp [Channel.heard, Channel.validFrame_eq, Channel.noiseFrame, hit, good]

/-- In OFF and FAULT no noise is measured (R40). -/
theorem Channel.heard_of_still {x : Channel} (still : x.state = .off ∨ x.state = .fault) (mag : Nat) :
    x.heard mag = { x with
      missingRun := 0
      goodRun := if x.lane = .lost then min 64 (x.goodRun + 1) else x.goodRun
      prevMag := mag
      frameSeen := true } := by
  rcases still with e | e <;> simp [Channel.heard, Channel.validFrame_eq, Channel.noiseFrame, e]

theorem Channel.heard_of_settling {x : Channel} (settling : x.state = .settling) (open' : x.settleDue = false)
    (mag : Nat) : x.heard mag = { x with
      missingRun := 0
      goodRun := if x.lane = .lost then min 64 (x.goodRun + 1) else x.goodRun
      prevMag := mag
      frameSeen := true
      blockPos := x.blockPos + 1
      blockSum := x.blockSum + mag
      settleDue := decide (4096 ≤ x.blockPos + 1) } := by
  simp [Channel.heard, Channel.validFrame_eq, Channel.noiseFrame, settling, open', Config.blockLen]

theorem Channel.heard_of_lockout {x : Channel} {till : Nat} (locked : x.state = .lockout till) (mag : Nat) :
    x.heard mag = { x with
      missingRun := 0
      goodRun := if x.lane = .lost then min 64 (x.goodRun + 1) else x.goodRun
      prevMag := mag
      frameSeen := true
      blockPos := x.blockPos + 1
      blockBad := true } := by
  simp [Channel.heard, Channel.validFrame_eq, Channel.noiseFrame, locked]

/-- A missing frame spoils the noise block of every state that measures one (R18, R40). -/
theorem Channel.missed_eq {x : Channel} (open' : x.settleDue = false) : x.missed = { x with
    missingRun := min 4 (x.missingRun + 1)
    goodRun := if x.lane = .lost then 0 else x.goodRun
    prevMag := 0
    frameSeen := true
    blockPos := if x.state = .off ∨ x.state = .fault then x.blockPos else x.blockPos + 1
    blockBad := if x.state = .off ∨ x.state = .fault then x.blockBad else true
    settleDue := decide (x.state = .settling ∧ 4096 ≤ x.blockPos + 1) } := by
  unfold Channel.missed
  rw [Channel.missedFrame_eq, Channel.noiseFrame]
  cases e : x.state <;> simp [open', Config.blockLen]

theorem isClipped_eq (v : Sample) : isClipped v = decide (v = 0x8000#16 ∨ v = 0x7FFF#16) := by
  simp [isClipped, beq_eq_decide]

theorem isCount_iff (thr prev mag : Nat) : isCount thr prev mag = true ↔ bigM thr ≤ mag ∧ prev < bigM thr := by
  simp [isCount]

/-- A frame is taken at once where nothing of its channel is due (R18, log 4). -/
theorem State.laneSample_of_nothingDue {s : State} {c : Chan} (fresh : (s.ch c).frameSeen = false)
    (nothing : s.NothingDue c) (v : Sample) : s.laneSample c v = s.takeSample c v := by
  rw [State.laneSample, if_neg (by simp [fresh]), State.catchUp_of_nothingDue nothing]

theorem State.missingFrame_of_nothingDue {s : State} {c : Chan} (fresh : (s.ch c).frameSeen = false)
    (nothing : s.NothingDue c) : s.missingFrame c = s.takeMissing c := by
  rw [State.missingFrame, if_neg (by simp [fresh]), State.catchUp_of_nothingDue nothing]

theorem State.laneSample_of_seen {s : State} {c : Chan} (seen : (s.ch c).frameSeen = true) (v : Sample) :
    s.laneSample c v = s := if_pos seen

theorem State.missingFrame_of_seen {s : State} {c : Chan} (seen : (s.ch c).frameSeen = true) : s.missingFrame c = s :=
  if_pos seen

theorem State.takeSample_of_quiet {s : State} {c : Chan} {v : Sample} (quiet : (s.ch c).state = .quiet) :
    s.takeSample c v =
      if s.ctl.run = .armed ∧ isCount (s.ch c).thr (s.ch c).prevMag (magnitude v) = true then
        (s.setCh c ((s.ch c).heard (magnitude v))).openHit c (magnitude v) (isClipped v)
      else s.setCh c ((s.ch c).heard (magnitude v)) := by
  simp only [State.takeSample, quiet]
  rfl

theorem State.takeSample_of_hit {s : State} {c : Chan} {h : Hit} {v : Sample} (hit : (s.ch c).state = .hit h) :
    s.takeSample c v =
      ((s.setCh c ((s.ch c).heard (magnitude v))).sampleHit c h (magnitude v)
        (isCount (s.ch c).thr (s.ch c).prevMag (magnitude v)) (isClipped v)).afterHitSample c s.ctl.run := by
  simp only [State.takeSample, hit]
  rfl

/-- In OFF, FAULT, SETTLING and LOCKOUT a sample tells lane health and noise alone (R18, R40). -/
theorem State.takeSample_of_other {s : State} {c : Chan} {v : Sample} (quiet : (s.ch c).state ≠ .quiet)
    (hit : ∀ h, (s.ch c).state ≠ .hit h) (testing : (s.ch c).state ≠ .testing) :
    s.takeSample c v = s.setCh c ((s.ch c).heard (magnitude v)) := by
  unfold State.takeSample
  dsimp only
  split
  · next e => exact absurd e quiet
  · next h e => exact absurd e (hit h)
  · next e => exact absurd e testing
  · rfl

/-- The last sample of a hit that a freeze cuts (R37, R55). -/
theorem State.afterHitSample_of_freezing {s : State} (freezing : s.ctl.run = .freezing) (c : Chan) :
    s.afterHitSample c .freezing = (s.cutWhere fun b => decide (b = c)).afterCuts := by
  rw [State.afterHitSample, if_pos rfl, State.cutCh_eq freezing, State.finishCuts_eq (by exact freezing)]

theorem State.afterHitSample_of_other {before : RunState} (other : before ≠ .freezing) (c : Chan) (s : State) :
    s.afterHitSample c before = s := if_neg other

/-! ### The onset count and the clip test (R15, R157) -/

theorem State.clipOnset_of_other {s : State} (other : s.ctl.run ≠ .armed) (c : Chan) : s.clipOnset c = s := by
  unfold State.clipOnset
  split
  · next armed => exact absurd armed other
  · rfl

theorem State.clipOnset_of_armed {s : State} (armed : s.ctl.run = .armed) (c : Chan) : s.clipOnset c =
    if s.ctl.rc ≠ 0 ∧ s.ctl.rc ≤ countSet (s.clipCounted c) then
      (s.recordClip c).enterFreezing (.rupture .clip) .rupture
        (.clip (countSet (s.clipCounted c)) s.ctl.rw c (s.clipCounted c))
    else s.recordClip c := by
  simp only [State.clipOnset, armed]

theorem State.clipCounted_getElem (s : State) (c d : Chan) : (s.clipCounted c)[d] =
    match (s.ctl.clipTicks.set c (some s.tick))[d] with
      | none => false
      | some u => decide (s.tick - s.ctl.rw ≤ u) := by
  simp only [State.clipCounted, RunCtl.recentClips, State.recordClip, Fin.getElem_fin, Vector.getElem_ofFn]
  rfl

/-! ### A sample of a hit (R32 to R34) -/

theorem Hit.sample_eq (h : Hit) (pdt t mag : Nat) (count clip : Bool) : h.sample pdt t mag count clip = { h with
    peakFixed := h.fixedAt pdt t
    peak := if h.fixedAt pdt t = false ∧ h.peak < mag then mag else h.peak
    peakTick := if h.fixedAt pdt t = false ∧ h.peak < mag then t else h.peakTick
    running := h.running + mag * mag
    counts := if count = true then h.counts + 1 else h.counts
    lastCount := if count = true then t else h.lastCount
    energySum := if count = true then h.running + mag * mag else h.energySum
    clipped := h.clipped || clip } := by
  simp only [Hit.sample, Bool.and_eq_true, Bool.not_eq_true', decide_eq_true_eq]

/-- Only the first clipped sample of a hit is a clip onset (R34). -/
theorem State.sampleHit_eq (s : State) (c : Chan) (h : Hit) (mag : Nat) (count clip : Bool) (x : Channel) :
    (s.setCh c x).sampleHit c h mag count clip =
      if clip = true ∧ h.clipped = false then
        (s.setCh c { x with state := .hit (h.sample x.cfg.pdt s.tick mag count clip) }).clipOnset c
      else s.setCh c { x with state := .hit (h.sample x.cfg.pdt s.tick mag count clip) } := by
  simp only [State.sampleHit, State.setCh_modCh, Bool.and_eq_true, Bool.not_eq_true']
  rfl

end Sys2Proof.Machine

namespace Sys2Proof

open Machine

/-- Settles O15: the guards of the onset count, one after another. -/
theorem onsetCounted : Obligations.OnsetCounted := by
  intro s c arrival st
  refine ⟨fun closed => ?_, fun opened unmarked below fresh => ⟨fun short => ?_, fun reached zero => ?_,
    fun reached some => ?_⟩⟩
  · rw [State.countOnset, if_neg]
    rcases closed with e | e | e | e <;> simp [e]
  all_goals rw [State.countOnset, if_pos (by simp [opened, unmarked, below, fresh])]
  · rw [if_neg (Nat.not_le.mpr short)]
  · rw [if_pos reached, if_pos zero]
  · rw [if_pos reached, if_neg some]

/-- Settles O16: the channels counted are those of the ticks given, and their number is held against RC. -/
theorem clipTestFreezes : Obligations.ClipTestFreezes := by
  intro s c ticks n isTicks isN
  have recorded : s.recordClip c = { s with ctl := { s.ctl with clipTicks := ticks } } := by rw [isTicks]; rfl
  have number : countSet (s.clipCounted c) = n := by
    rw [isN, isTicks]
    exact congrArg List.length (List.filter_congr fun d _ => s.clipCounted_getElem c d)
  refine ⟨fun other => State.clipOnset_of_other other c, fun armed few => ?_, fun armed some many counted isCounted
    => ?_⟩
  · rw [State.clipOnset_of_armed armed, if_neg (by rw [number]; omega), recorded]
  · have set : s.clipCounted c = counted := by
      ext i hi
      have here := s.clipCounted_getElem c ⟨i, hi⟩
      rw [← isTicks] at here
      exact here.trans (isCounted ⟨i, hi⟩).symm
    rw [State.clipOnset_of_armed armed, if_pos ⟨some, by rw [number]; exact many⟩, number, set, recorded,
      State.enterFreezing_eq]

/-- Settles O14: a sample in QUIET by its count, and what a count in ARMED opens. -/
theorem quietSampleOpensHit : Obligations.QuietSampleOpensHit := by
  intro s c x y sample mag clip st running here fresh nothing quiet good isMag isClip isStamp isNext
  subst here
  have live : exec (.laneSample c sample) s = .next (s.laneSample c sample) := live_of_running _ running
  have isMag : magnitude sample = mag := isMag.symm
  have heard : (s.ch c).heard mag = y := (Channel.heard_of_quiet quiet good mag).trans isNext.symm
  rw [live, State.laneSample_of_nothingDue fresh nothing, State.takeSample_of_quiet quiet, isMag, heard, isClipped_eq,
    ← isClip]
  simp only [isCount_iff]
  refine ⟨fun none => by rw [if_neg none], fun count u isOpen => ?_⟩
  rw [if_pos count]
  have stamp : s.press.stamp = st := isStamp.symm
  have opened : ((s.setCh c y).modCh c fun x =>
      { x with state := .hit (Hit.opened s.tick mag clip s.press.stamp), blockBad := true }) = s.setCh c { y with
        blockBad := true
        state := .hit ⟨s.tick, st, s.tick, 1, mag, s.tick, false, mag * mag, mag * mag, clip⟩ } := by
    rw [State.setCh_modCh, stamp]
    rfl
  have before : ((s.setCh c y).modCh c fun x =>
      { x with state := .hit (Hit.opened s.tick mag clip s.press.stamp), blockBad := true }).countOnset c s.tick
        s.press.stamp = u := by rw [opened, stamp, isOpen]
  change Host.Outcome.next (State.openHit c mag clip (s.setCh c y)) = _
  exact congrArg Host.Outcome.next (congrArg (fun v : State => if clip then v.clipOnset c else v) before)

/-- Settles O17: what the sample leaves of the hit; in FREEZING the hit is cut with it. -/
theorem hitSampleMeasures : Obligations.HitSampleMeasures := by
  intro s c x h sample mag clip fixed running here fresh nothing hit good isMag isClip isFixed u isNext
  subst here
  have live : exec (.laneSample c sample) s = .next (s.laneSample c sample) := live_of_running _ running
  have isMag : magnitude sample = mag := isMag.symm
  have isFixed : h.fixedAt (s.ch c).cfg.pdt s.tick = fixed := isFixed.symm
  obtain ⟨x, isHeard⟩ : ∃ x, x = (s.ch c).heard mag := ⟨_, rfl⟩
  have taken : s.setCh c { x with
      state := .hit (h.sample x.cfg.pdt s.tick mag (isCount (s.ch c).thr (s.ch c).prevMag mag) clip) } = u := by
    rw [isNext, isHeard, Channel.heard_of_hit hit good, Hit.sample_eq]
    simp only [isCount_iff, isFixed]
  rw [live, State.laneSample_of_nothingDue fresh nothing, State.takeSample_of_hit hit, isMag, isClipped_eq, ← isClip,
    ← isHeard, State.sampleHit_eq, taken]
  refine ⟨fun other => by rw [State.afterHitSample_of_other other], fun freezing => ?_⟩
  have still : u.ctl.run = .freezing := by rw [isNext]; exact freezing
  rw [State.clipOnset_of_other (by simp [still]), ite_self, freezing, State.afterHitSample_of_freezing still]

/-- Settles O18: a missing frame, and a sample by each state that takes no count. -/
theorem framesWithoutACountAreTaken : Obligations.FramesWithoutACountAreTaken := by
  refine ⟨fun s c x running here => ?_, fun s c x y sample mag running here fresh nothing isMag isNext => ?_⟩
  · subst here
    have missing : exec (.missingFrame c) s = .next (s.missingFrame c) := live_of_running _ running
    refine ⟨fun fresh nothing u isNext => ?_, fun seen => ⟨?_, fun v => ?_⟩⟩
    · have taken : s.setCh c (s.ch c).missed = u := by rw [isNext, Channel.missed_eq nothing.settle]
      rw [missing, State.missingFrame_of_nothingDue fresh nothing]
      refine ⟨fun free => ?_, fun h hit freezing => ?_⟩
      · rw [← taken]
        unfold State.takeMissing
        dsimp only
        split
        · next h hit =>
          rcases free with none | other
          · exact absurd hit (none h)
          · rw [State.afterHitSample_of_other other]
            rfl
        · rfl
      · have still : u.ctl.run = .freezing := by rw [isNext]; exact freezing
        rw [← State.afterHitSample_of_freezing still, ← taken]
        simp only [State.takeMissing, hit, freezing]
        rfl
    · rw [missing, State.missingFrame_of_seen seen]
    · have live : exec (.laneSample c v) s = .next (s.laneSample c v) := live_of_running _ running
      rw [live, State.laneSample_of_seen seen]
  · subst here isNext
    have live : exec (.laneSample c sample) s = .next (s.laneSample c sample) := live_of_running _ running
    have isMag : magnitude sample = mag := isMag.symm
    rw [live, State.laneSample_of_nothingDue fresh nothing]
    refine ⟨fun still => ?_, fun settling => ?_, fun till locked => ?_⟩
    · rw [State.takeSample_of_other, isMag, Channel.heard_of_still still]
      all_goals rcases still with e | e <;> simp [e]
    · rw [State.takeSample_of_other, isMag, Channel.heard_of_settling settling nothing.settle]
      all_goals simp [settling]
    · rw [State.takeSample_of_other, isMag, Channel.heard_of_lockout locked]
      all_goals simp [locked]

end Sys2Proof
end

section
/-! PROOFS. The steps of a channel at its deadlines (02): fixed peaks, noise blocks, the ends of hits, lockouts and
settling, and the loss and recovery of its lane. -/

namespace Sys2Proof.Machine

/-! ### Noise blocks (R40, R41) -/

theorem floatMove_eq (thr target : Nat) :
    floatMove thr target = if thr ≤ target then min target (thr + 3) else max target (thr - 3) := by
  have step : floatMove thr target = if thr < target then thr + min 3 (target - thr) else thr - min 3 (thr - target) :=
    rfl
  rw [step]
  split <;> split <;> omega

theorem Channel.endBlock_of_bad {x : Channel} (bad : x.blockBad = true) :
    x.endBlock = { x with blockPos := 0, blockSum := 0, blockBad := false } := by
  simp only [Channel.endBlock, bad, if_true]

theorem Channel.endBlock_of_good {x : Channel} {noise target : Nat} (good : x.blockBad = false)
    (isNoise : noise = ampCode (x.blockSum / 4096))
    (isTarget : target = max x.cfg.thrCode (min 90 (noise + x.cfg.margin))) :
    x.endBlock = { x with
      blockPos := 0
      blockSum := 0
      noiseCode := noise
      thr := if x.cfg.mode = .fixed then x.thr
        else if x.thr ≤ target then min target (x.thr + 3) else max target (x.thr - 3) } := by
  have code : blockCode x.blockSum = noise := isNoise.symm
  have goal : floatTarget x.cfg noise = target := isTarget.symm
  rw [← floatMove_eq]
  simp only [Channel.endBlock, good, Bool.false_eq_true, if_false, code, goal]
  cases x.cfg.mode <;> simp

/-! ### The ends of a hit (R35, R36) -/

theorem State.hitsEnd_iff (s : State) : s.hitsEnd = true ↔ s.ctl.run ≠ .freezing := by simp [State.hitsEnd]

section
variable {s : State} {c : Chan} {h : Hit} (hit : (s.ch c).state = .hit h)
include hit

/-- The normal end, once its sample has been taken and no forced end came before it (R35). -/
theorem State.hitEnd_of_hit : s.hitEnd c =
    if (Reached s.tick (s.ch c).frameSeen (h.lastCount + (s.ch c).cfg.hdt) ∧
        h.lastCount + (s.ch c).cfg.hdt ≤ h.arrival + (s.ch c).cfg.maxDur) ∧ s.ctl.run ≠ .freezing then
      s.endedAt c h (h.lastCount + (s.ch c).cfg.hdt) false
    else s := by
  simp only [State.hitEnd, hit, Bool.and_eq_true, Hit.normalDue_iff, State.hitsEnd_iff, State.endHit_eq]
  rfl

/-- The forced end (R36). -/
theorem State.forcedEnd_of_hit : s.forcedEnd c =
    if (Reached s.tick (s.ch c).frameSeen (h.arrival + (s.ch c).cfg.maxDur) ∧
        h.arrival + (s.ch c).cfg.maxDur < h.lastCount + (s.ch c).cfg.hdt) ∧ s.ctl.run ≠ .freezing then
      s.endedAt c h (h.arrival + (s.ch c).cfg.maxDur) true
    else s := by
  simp only [State.forcedEnd, hit, Bool.and_eq_true, Hit.forcedDue_iff, State.hitsEnd_iff, State.endHit_eq]
  rfl

end

/-! ### The return to QUIET (R25, R28) -/

theorem State.toQuiet_eq (s : State) (c : Chan) : s.toQuiet c = s.setCh c { (s.ch c).withPending with
    state := if s.claimed c = true ∧ (s.ch c).leftCheck = false then .testing else .quiet } := by
  simp only [State.toQuiet, State.modCh, Channel.applyPending_eq, Bool.and_eq_true, Bool.not_eq_true']

theorem State.lockoutEnd_of_lockout {s : State} {c : Chan} {till : Nat} (locked : (s.ch c).state = .lockout till) :
    s.lockoutEnd c = if Reached s.tick (s.ch c).frameSeen till then s.toQuiet c else s := by
  simp only [State.lockoutEnd, locked, passed_iff]

/-- The settling block is over, and the channel returns to QUIET (R27, R28). -/
theorem State.settlingComplete_of_due {s : State} {c : Chan} (settling : (s.ch c).state = .settling)
    (due : (s.ch c).settleDue = true) : s.settlingComplete c = s.setCh c { (s.ch c).withPending with
      state := if s.claimed c = true ∧ (s.ch c).leftCheck = false then .testing else .quiet
      settleDue := false } := by
  rw [State.settlingComplete, if_pos ⟨settling, due⟩, State.toQuiet_eq, State.modCh, State.setCh_ch_same,
    State.setCh_setCh]
  rfl

theorem State.settlingComplete_of_open {s : State} {c : Chan} (open' : (s.ch c).settleDue = false) :
    s.settlingComplete c = s := if_neg (by simp [open'])

/-! ### The lane (R19, R20) -/

theorem State.laneLost_of_short {s : State} {c : Chan} (short : (s.ch c).missingRun < 4) : s.laneLost c = s := by
  rw [State.laneLost, if_neg]
  rw [Channel.lossDue_iff]
  exact fun due => Nat.ne_of_lt short due.2

section
variable {s : State} {c : Chan} (good : (s.ch c).lane = .good) (run : (s.ch c).missingRun = 4)
include good run

theorem State.laneLost_of_idle (idle : ∀ h, (s.ch c).state ≠ .hit h) : s.laneLost c = s.loseLane c := by
  rw [State.laneLost, if_pos ((s.ch c).lossDue_iff.mpr ⟨good, run⟩)]
  split
  · next h hit => exact absurd hit (idle h)
  · rfl

theorem State.laneLost_of_hit {h : Hit} (hit : (s.ch c).state = .hit h) :
    s.laneLost c = if s.ctl.run ≠ .freezing then s.lostInHit c h else s := by
  rw [State.laneLost, if_pos ((s.ch c).lossDue_iff.mpr ⟨good, run⟩), State.loseLane_hit hit]
  simp only [hit, State.hitsEnd_iff]

end

theorem State.laneRecovered_of_short {s : State} {c : Chan} (short : (s.ch c).goodRun < 64) : s.laneRecovered c = s :=
  if_neg fun due => Nat.ne_of_lt short due.2

section
variable {s : State} {c : Chan} (lost : (s.ch c).lane = .lost) (run : (s.ch c).goodRun = 64)
include lost run

theorem State.laneRecovered_of_other (other : (s.ch c).state ≠ .fault) :
    s.laneRecovered c = s.setCh c { s.ch c with lane := .good, goodRun := 0 } := by
  rw [State.laneRecovered, if_pos ⟨lost, run⟩]
  exact if_neg other

theorem State.laneRecovered_of_fault (fault : (s.ch c).state = .fault) :
    s.laneRecovered c = State.notify
      (s.setCh c { (s.ch c).beginSettling with lane := .good, goodRun := 0, faultChanged := true })
      (.faultRecovered s.tick c (s.ch c).faults) := by
  rw [State.laneRecovered, if_pos ⟨lost, run⟩, if_pos fault, State.modCh_modCh]
  rfl

end

end Sys2Proof.Machine

namespace Sys2Proof

open Machine

/-- Settles O19: the peak test, and the end of a noise block by whether it was spoilt. -/
theorem peakFixesAndNoiseBlockEnds : Obligations.PeakFixesAndNoiseBlockEnds := by
  refine ⟨fun s c running => ⟨fun h hit => ?_, fun none => ?_⟩, fun s c x noise target running here isNoise isTarget
    => ⟨fun short => ?_, fun full => ⟨fun bad => ?_, fun good => ?_⟩⟩⟩
  · have live : exec (.peakFixed c) s = .next (s.peakFixed c) := live_of_running _ running
    rw [live]
    simp only [State.peakFixed, hit]
    rfl
  · have live : exec (.peakFixed c) s = .next (s.peakFixed c) := live_of_running _ running
    rw [live, State.peakFixed]
    split
    · next h hit => exact absurd hit (none h)
    · rfl
  all_goals
    subst here
    have live : exec (.noiseBlockEnd c) s = .next (s.noiseBlockEnd c) := live_of_running _ running
    rw [live, State.noiseBlockEnd]
  · rw [if_neg (by exact Nat.not_le.mpr short)]
  · rw [if_pos (by exact full), State.modCh, Channel.endBlock_of_bad bad]
  · rw [if_pos (by exact full), State.modCh, Channel.endBlock_of_good good isNoise isTarget]

/-- Settles O20: each end by its deadline, the return to QUIET said once. -/
theorem hitsLockoutsAndSettlingEnd : Obligations.HitsLockoutsAndSettlingEnd := by
  refine ⟨fun s c h n m seen running hit isSeen isNormal isForced => ?_, fun s c x y running here isNext => ?_⟩
  · subst isSeen isNormal isForced
    have normal : exec (.hitEnd c) s = .next (s.hitEnd c) := live_of_running _ running
    have forced : exec (.forcedEnd c) s = .next (s.forcedEnd c) := live_of_running _ running
    rw [normal, forced, State.hitEnd_of_hit hit, State.forcedEnd_of_hit hit]
    refine ⟨fun other => ⟨fun reached first => by rw [if_pos ⟨⟨reached, first⟩, other⟩],
      fun reached first => by rw [if_pos ⟨⟨reached, first⟩, other⟩]⟩, fun none => ?_, fun none => ?_⟩
    all_goals
      rw [if_neg]
      rintro ⟨⟨reached, first⟩, other⟩
      rcases none with freezing | early | late
      · exact other freezing
      · exact early reached
      · omega
  · subst here
    refine ⟨fun till locked => ?_, fun settling => ?_⟩
    · have live : exec (.lockoutEnd c) s = .next (s.lockoutEnd c) := live_of_running _ running
      rw [live, State.lockoutEnd_of_lockout locked]
      refine ⟨fun reached => ?_, fun early => by rw [if_neg early]⟩
      rw [if_pos reached, State.toQuiet_eq, isNext]
      rfl
    · have live : exec (.settlingComplete c) s = .next (s.settlingComplete c) := live_of_running _ running
      rw [live]
      refine ⟨fun due => ?_, fun open' => by rw [State.settlingComplete_of_open open']⟩
      rw [State.settlingComplete_of_due settling due, isNext]
      rfl

/-- Settles O21: the loss by the state of the channel, the recovery by whether it stands in FAULT. -/
theorem laneIsLostAndRecovers : Obligations.LaneIsLostAndRecovers := by
  refine ⟨fun s c x running here good => ?_, fun s c x running here lost => ?_⟩
  · subst here
    have live : exec (.laneLost c) s = .next (s.laneLost c) := live_of_running _ running
    rw [live]
    refine ⟨fun short => by rw [State.laneLost_of_short short], fun run => ⟨fun off => ?_, fun on idle => ?_,
      fun h hit => ?_⟩⟩
    · have lost : s.loseLane c = s.modCh c fun x => { x with lane := .lost, goodRun := 0 } := by
        simp only [State.loseLane, off]
      rw [State.laneLost_of_idle good run (by simp [off]), lost]
      rfl
    · rw [State.laneLost_of_idle good run idle, State.loseLane_idle idle on]
    · rw [State.laneLost_of_hit good run hit]
      exact ⟨fun other => by rw [if_pos other], fun freezing => by rw [if_neg (not_not_intro freezing)]⟩
  · subst here
    have live : exec (.laneRecovered c) s = .next (s.laneRecovered c) := live_of_running _ running
    rw [live]
    refine ⟨fun short => by rw [State.laneRecovered_of_short short], fun run => ⟨fun other => ?_, fun fault => ?_⟩⟩
    · rw [State.laneRecovered_of_other lost run other]
    · rw [State.laneRecovered_of_fault lost run fault]
      rfl

end Sys2Proof
end

section
/-! PROOFS. CHANNEL SET (R21 to R25): its items read from the payload, its tests, and what each channel of the mask
takes. -/

namespace Sys2Proof.Machine

/-! ### The items of a payload (R21, 11.3) -/

/-- The bytes of the items carried, each in its width. -/
def carriedBytes (l : List (Option Nat × Nat)) : List Byte :=
  l.flatMap fun p => match p.1 with
    | some v => be p.2 v
    | none => []

/-- The selection from bit i on names these items as carried. -/
def Selects (sel i : Nat) (l : List (Option Nat × Nat)) : Prop :=
  ∀ k (h : k < l.length), (l[k]).1.isSome = sel.testBit (i + k)

theorem Selects.head {sel i : Nat} {p : Option Nat × Nat} {l : List (Option Nat × Nat)} (sels : Selects sel i (p :: l)) :
    p.1.isSome = sel.testBit i := sels 0 (Nat.zero_lt_succ _)

theorem Selects.tail {sel i : Nat} {p : Option Nat × Nat} {l : List (Option Nat × Nat)} (sels : Selects sel i (p :: l)) :
    Selects sel (i + 1) l := fun k h => by
  have here := sels (k + 1) (Nat.succ_lt_succ h)
  rw [List.getElem_cons_succ] at here
  rw [here, Nat.add_assoc, Nat.add_comm 1 k]

theorem itemsLength_eq {sel i : Nat} {l : List (Option Nat × Nat)} (sels : Selects sel i l) :
    itemsLength sel i (l.map (·.2)) = (l.map fun p => if p.1.isSome then p.2 else 0).sum := by
  induction l generalizing i with
  | nil => rfl
  | cons p l ih =>
    rw [List.map_cons, itemsLength, ih sels.tail, ← sels.head, List.map_cons, List.sum_cons]

/-- The items are read back as they were laid down (R21). -/
theorem itemsOf_carriedBytes {sel i : Nat} {l : List (Option Nat × Nat)} (sels : Selects sel i l)
    (fit : ∀ p ∈ l, ∀ v, p.1 = some v → v < 256 ^ p.2) :
    itemsOf sel i (l.map (·.2)) (carriedBytes l) = l.map (·.1) := by
  induction l generalizing i with
  | nil => rfl
  | cons p l ih =>
    obtain ⟨fitHead, fitTail⟩ := List.forall_mem_cons.mp fit
    obtain ⟨o, w⟩ := p
    rw [List.map_cons, itemsOf, ← sels.head, List.map_cons]
    cases o with
    | none =>
      rw [if_neg (by simp)]
      exact congrArg (none :: ·) (ih sels.tail fitTail)
    | some v =>
      have bytes : carriedBytes ((some v, w) :: l) = be w v ++ carriedBytes l := rfl
      rw [if_pos (by exact rfl), bytes, List.take_left' (be_length w v), List.drop_left' (be_length w v), ih sels.tail fitTail,
        beNat_be, Nat.mod_eq_of_lt (fitHead v rfl)]

/-- The eleven items by their numbers (2.2). -/
def ChanItems.ofItems (item : Fin 11 → Option Nat) : ChanItems :=
  ⟨item 0, item 1, item 2, item 3, item 4, item 5, item 6, item 7, item 8, item 9, item 10⟩

section
variable {item : Fin 11 → Option Nat} {width : Fin 11 → Nat} {sel : Nat}

theorem itemWidths_eq (item : Fin 11 → Option Nat) (isWidth : width = ![1, 1, 1, 1, 1, 1, 2, 2, 2, 3, 1]) :
    itemWidths = ((List.finRange 11).map fun n => (item n, width n)).map (·.2) := by
  subst isWidth
  rfl

theorem selects_items (width : Fin 11 → Nat) (isSel : ∀ n : Fin 11, (item n).isSome = sel.testBit n.val) :
    Selects sel 0 ((List.finRange 11).map fun n => (item n, width n)) := fun k h => by
  simp only [List.getElem_map, List.getElem_finRange, Nat.zero_add]
  exact isSel _

variable (isWidth : width = ![1, 1, 1, 1, 1, 1, 2, 2, 2, 3, 1])
  (isSel : ∀ n : Fin 11, (item n).isSome = sel.testBit n.val)
include isWidth isSel

theorem itemsLength_items : itemsLength sel 0 itemWidths =
    ((List.finRange 11).map fun n => if (item n).isSome then width n else 0).sum := by
  rw [itemWidths_eq item isWidth, itemsLength_eq (selects_items width isSel), List.map_map]
  rfl

theorem chanItems_items (fit : ∀ n v, item n = some v → v < 256 ^ width n) :
    chanItems sel ((List.finRange 11).flatMap fun n => match item n with
      | some v => be (width n) v
      | none => []) = ChanItems.ofItems item := by
  have bytes : ((List.finRange 11).flatMap fun n => match item n with
      | some v => be (width n) v
      | none => []) = carriedBytes ((List.finRange 11).map fun n => (item n, width n)) := by
    rw [carriedBytes, List.flatMap_map]
  have read : itemsOf sel 0 itemWidths (carriedBytes ((List.finRange 11).map fun n => (item n, width n))) =
      (List.finRange 11).map item := by
    rw [itemWidths_eq item isWidth, itemsOf_carriedBytes (selects_items width isSel), List.map_map]
    · rfl
    · intro p mem v some
      obtain ⟨n, -, rfl⟩ := List.mem_map.mp mem
      exact fit n v some
  rw [bytes]
  unfold chanItems
  rw [read]
  rfl

end

/-! ### The tests (R21) -/

theorem channelSetRule_of_short {payload : List Byte} (short : payload.length < 4) (s : State) :
    channelSetRule payload s = refuse s .format := by
  match payload, short with
  | [], _ => rfl
  | [_], _ => rfl
  | [_, _], _ => rfl
  | [_, _, _], _ => rfl

theorem codeOk_iff {α : Type} {f : Nat → Option α} {top : Nat} (listed : ∀ v, (f v).isSome = true ↔ v ≤ top)
    (o : Option Nat) : codeOk f o = true ↔ ∀ v, o = some v → v ≤ top := by
  cases o with
  | none => simp [codeOk]
  | some v => simp [codeOk, listed]

theorem onOff_isSome (v : Nat) : (onOff v).isSome = true ↔ v ≤ 1 := by
  match v with
  | 0 | 1 => simp [onOff]
  | v + 2 => simp [onOff]

theorem roleOf_isSome (v : Nat) : (roleOf v).isSome = true ↔ v ≤ 2 := by
  match v with
  | 0 | 1 | 2 => simp [roleOf]
  | v + 3 => simp [roleOf]

theorem modeOf_isSome (v : Nat) : (modeOf v).isSome = true ↔ v ≤ 1 := by
  match v with
  | 0 | 1 => simp [modeOf]
  | v + 2 => simp [modeOf]

theorem beyondArmed_iff (item : Fin 11 → Option Nat) : (ChanItems.ofItems item).beyondArmed = true ↔
    ∃ n : Fin 11, (item n).isSome = true ∧ n ≠ 3 ∧ n ≠ 4 ∧ n ≠ 5 := by
  have split : (∃ n : Fin 11, (item n).isSome = true ∧ n ≠ 3 ∧ n ≠ 4 ∧ n ≠ 5) ↔
      ∃ n ∈ ([0, 1, 2, 6, 7, 8, 9, 10] : List (Fin 11)), (item n).isSome = true := by
    have others : ∀ n : Fin 11, n ≠ 3 ∧ n ≠ 4 ∧ n ≠ 5 ↔ n ∈ ([0, 1, 2, 6, 7, 8, 9, 10] : List (Fin 11)) := by decide
    exact exists_congr fun n => by rw [others, and_comm]
  rw [split]
  simp [ChanItems.beyondArmed, ChanItems.ofItems, or_assoc]

theorem countSet_eq_zero (v : Vector Bool 16) : countSet v = 0 ↔ ∀ c : Chan, v[c] = false := by
  simp [countSet, mem_allChans]

theorem maskSet_getElem (m : Nat) (c : Chan) : (maskSet m)[c] = m.testBit c.val := by
  simp [maskSet]

/-- An item is outside its codes or its range. -/
theorem codesOk_iff {item : Fin 11 → Option Nat} {hi : Fin 11 → Nat}
    (isHi : hi = ![1, 2, 1, 90, 40, 40, 65535, 65535, 65535, 1048575, 4]) :
    (ChanItems.ofItems item).codesOk = false ↔ ∃ n v, n < 3 ∧ item n = some v ∧ hi n < v := by
  have ok : (ChanItems.ofItems item).codesOk = true ↔ ∀ n v, n < 3 → item n = some v → v ≤ hi n := by
    have firsts : (∀ n v, n < 3 → item n = some v → v ≤ hi n) ↔
        (∀ v, item 0 = some v → v ≤ 1) ∧ (∀ v, item 1 = some v → v ≤ 2) ∧ ∀ v, item 2 = some v → v ≤ 1 := by
      subst isHi
      constructor
      · exact fun all => ⟨fun v => all 0 v (by decide), fun v => all 1 v (by decide), fun v => all 2 v (by decide)⟩
      · rintro ⟨zero, one, two⟩ n v low
        have three : n = 0 ∨ n = 1 ∨ n = 2 := by omega
        rcases three with rfl | rfl | rfl
        · exact zero v
        · exact one v
        · exact two v
    rw [firsts]
    simp only [ChanItems.codesOk, Bool.and_eq_true, codeOk_iff onOff_isSome, codeOk_iff roleOf_isSome,
      codeOk_iff modeOf_isSome, and_assoc]
    rfl
  rw [← Bool.not_eq_true, ok]
  simp

theorem itemOutside_iff (lo hi : Nat) (o : Option Nat) :
    itemOutside lo hi o = true ↔ ∃ v, o = some v ∧ (v < lo ∨ hi < v) := by
  cases o <;> simp [itemOutside, outside]

/-! ### What a channel takes (R22 to R25) -/

/-- A channel in HIT or LOCKOUT holds a threshold code carried (R24). -/
def Channel.holdsThr (x : Channel) : Bool :=
  match x.state with
  | .hit _ => true
  | .lockout _ => true
  | _ => false

/-- The threshold code after a CHANNEL SET (R24). -/
def Channel.codeWith (x : Channel) (carried : Option Nat) : Nat :=
  if x.holdsThr = true then x.cfg.thrCode else itemOr 0 90 x.cfg.thrCode carried

theorem Channel.takeThr_eq (x : Channel) (carried : Option Nat) : x.takeThr carried = { x with
    pendingThr := if x.holdsThr = true ∧ carried ≠ none then some (itemOr 0 90 0 carried) else x.pendingThr
    thr := if x.holdsThr = true ∨ carried = none then x.thr
      else if x.cfg.mode = .fixed then x.codeWith carried else max x.thr (x.codeWith carried)
    cfg := { x.cfg with thrCode := x.codeWith carried } } := by
  cases carried with
  | none => cases held : x.holdsThr <;> simp [Channel.takeThr, Channel.codeWith, itemOr]
  | some v =>
    cases state : x.state with
    | hit h => simp [Channel.takeThr, Channel.codeWith, Channel.holdsThr, state, itemOr]
    | lockout t => simp [Channel.takeThr, Channel.codeWith, Channel.holdsThr, state, itemOr]
    | _ =>
      cases mode : x.cfg.mode <;>
        simp [Channel.takeThr, Channel.codeWith, Channel.holdsThr, Channel.applyThr, state, itemOr, mode]

theorem ChanCfg.mode_self {g : ChanCfg} {m : ThrMode} (same : g.mode = m) : { g with mode := m } = g := by
  subst same
  rfl

theorem Channel.takeMode_eq (x : Channel) {carried : Option Nat} (listed : ∀ v, carried = some v → v ≤ 1) :
    x.takeMode carried = { x with
      thr := if carried ≠ none ∧ carried ≠ some x.cfg.mode.code then x.cfg.thrCode else x.thr
      cfg := { x.cfg with
        mode := if carried = some 0 then .fixed else if carried = some 1 then .floating else x.cfg.mode } } := by
  match carried, listed with
  | none, _ => rfl
  | some 0, _ => cases mode : x.cfg.mode <;> simp [Channel.takeMode, modeOf, ThrMode.code, mode, ChanCfg.mode_self mode]
  | some 1, _ => cases mode : x.cfg.mode <;> simp [Channel.takeMode, modeOf, ThrMode.code, mode, ChanCfg.mode_self mode]
  | some (v + 2), listed => exact absurd (listed _ rfl) (by omega)

/-- The channel after the items carried, but for the enable (R22 to R25). -/
def Channel.carries (x : Channel) (i : ChanItems) : Channel := ((x.takeThr i.thrCode).takeMode i.mode).takeItems i

theorem roleOf_eq {carried : Option Nat} (listed : ∀ v, carried = some v → v ≤ 2) (old : Role) :
    (carried.bind roleOf).getD old = if carried = some 0 then .locate else if carried = some 1 then .guard
      else if carried = some 2 then .monitor else old := by
  match carried, listed with
  | none, _ => rfl
  | some 0, _ => rfl
  | some 1, _ => rfl
  | some 2, _ => rfl
  | some (v + 3), listed => exact absurd (listed _ rfl) (by omega)

theorem Channel.carries_eq (x : Channel) {i : ChanItems} (role : ∀ v, i.role = some v → v ≤ 2)
    (mode : ∀ v, i.mode = some v → v ≤ 1) : x.carries i = { x with
      pendingThr := if x.holdsThr = true ∧ i.thrCode ≠ none then some (itemOr 0 90 0 i.thrCode) else x.pendingThr
      thr := if i.mode ≠ none ∧ i.mode ≠ some x.cfg.mode.code then x.codeWith i.thrCode
        else if x.holdsThr = true ∨ i.thrCode = none then x.thr
        else if x.cfg.mode = .fixed then x.codeWith i.thrCode else max x.thr (x.codeWith i.thrCode)
      cfg := { x.cfg with
        role := if i.role = some 0 then .locate else if i.role = some 1 then .guard
          else if i.role = some 2 then .monitor else x.cfg.role
        mode := if i.mode = some 0 then .fixed else if i.mode = some 1 then .floating else x.cfg.mode
        thrCode := x.codeWith i.thrCode
        margin := itemOr 0 40 x.cfg.margin i.margin
        refOffset := itemOr 0 40 x.cfg.refOffset i.refOffset
        pdt := itemOr 1 65535 x.cfg.pdt i.pdt
        hdt := itemOr 1 65535 x.cfg.hdt i.hdt
        hlt := itemOr 0 65535 x.cfg.hlt i.hlt
        maxDur := itemOr 1 1048575 x.cfg.maxDur i.maxDur
        pulserLevel := itemOr 1 4 x.cfg.pulserLevel i.pulserLevel } } := by
  rw [Channel.carries, Channel.takeThr_eq, Channel.takeMode_eq _ mode, Channel.takeItems, roleOf_eq role]

/-- The channel after a CHANNEL SET on it (R22 to R25, R40). -/
def Channel.afterSet (x : Channel) (i : ChanItems) : Channel :=
  if i.enable = some 0 then
    { x.carries i with
      cfg := { (x.carries i).cfg with enable := false }
      state := .off, blockPos := 0, blockSum := 0, blockBad := false, settleDue := false }
  else if i.enable = some 1 ∧ x.state = .off then
    if x.lane = .good then
      { x.carries i with
        cfg := { (x.carries i).cfg with enable := true }
        state := .settling, blockPos := 0, blockSum := 0, blockBad := false, settleDue := false }
    else
      { Channel.withPending { x.carries i with cfg := { (x.carries i).cfg with enable := true } } with
        state := .fault, faults := min 255 (x.faults + 1), faultChanged := true, leftCheck := true }
  else x.carries i

/-- The CHANNEL SET enables the channel with its lane LOST (R22). -/
def Channel.faultsAt (x : Channel) (i : ChanItems) : Bool :=
  decide (i.enable = some 1 ∧ x.state = .off ∧ x.lane = .lost)

/-- The notice of a channel enabled with its lane LOST (R22). -/
def State.faultNotice (s : State) (c : Chan) : Notice := .faultLost s.tick c (min 255 ((s.ch c).faults + 1))

section
variable {s : State} {i : ChanItems} {c : Chan} (enable : ∀ v, i.enable = some v → v ≤ 1)
  (role : ∀ v, i.role = some v → v ≤ 2) (mode : ∀ v, i.mode = some v → v ≤ 1)
include enable role mode

/-- What a CHANNEL SET does to one channel of its mask (R22). -/
theorem State.setChannel_eq : s.setChannel i c =
    if (s.ch c).faultsAt i = true then (s.setCh c ((s.ch c).afterSet i)).notify (s.faultNotice c)
    else s.setCh c ((s.ch c).afterSet i) := by
  have state : ((s.ch c).carries i).state = (s.ch c).state := by rw [Channel.carries_eq _ role mode]
  have lane : ((s.ch c).carries i).lane = (s.ch c).lane := by rw [Channel.carries_eq _ role mode]
  have faults : ((s.ch c).carries i).faults = (s.ch c).faults := by rw [Channel.carries_eq _ role mode]
  have carried : s.setChannel i c = State.takeEnable c i.enable (s.setCh c ((s.ch c).carries i)) := rfl
  rw [carried]
  match isEnable : i.enable, enable with
  | none, _ => simp [State.takeEnable, Channel.faultsAt, Channel.afterSet, isEnable]
  | some 0, _ =>
    simp only [State.takeEnable, Channel.faultsAt, Channel.afterSet, isEnable, Option.bind_some, onOff, State.setCh_modCh]
    rfl
  | some 1, _ =>
    by_cases off : (s.ch c).state = .off
    · cases health : (s.ch c).lane with
      | good =>
        simp [State.takeEnable, onOff, Channel.faultsAt, Channel.afterSet, isEnable, State.setCh_ch_same, state, off,
          lane, health, State.setCh_modCh, Channel.beginSettling]
      | lost =>
        simp [State.takeEnable, onOff, Channel.faultsAt, Channel.afterSet, isEnable, State.setCh_ch_same, state, off,
          lane, health, State.setCh_modCh, State.enterFault, Channel.applyPending_eq, Channel.withPending, faults,
          State.faultNotice, satAdd_eq, Config.sat8]
    · have stays : State.takeEnable c (some 1) (s.setCh c ((s.ch c).carries i)) = s.setCh c ((s.ch c).carries i) := by
        have still : ((s.setCh c ((s.ch c).carries i)).ch c).state ≠ .off := by rwa [State.setCh_ch_same, state]
        simp only [State.takeEnable, Option.bind_some, onOff]
      rw [stays]
      simp [Channel.faultsAt, Channel.afterSet, isEnable, off]
  | some (v + 2), enable => exact absurd (enable _ rfl) (by omega)

/-- One channel after another, each takes the items once, and the LOST notices follow in their order (R22). -/
theorem State.foldl_setChannel {cs : List Chan} (nodup : cs.Nodup) (s : State) : cs.foldl (State.setChannel i) s =
    (cs.filter fun c => (s.ch c).faultsAt i).foldl (fun u c => u.notify (s.faultNotice c))
      (s.mapCh fun c x => if c ∈ cs then x.afterSet i else x) := by
  induction cs generalizing s with
  | nil =>
    refine State.eq_of_ch (fun c => ?_) rfl
    simp
  | cons c cs ih =>
    obtain ⟨fresh, nodup⟩ := List.nodup_cons.mp nodup
    obtain ⟨t, isNext⟩ : ∃ t, t = s.setCh c ((s.ch c).afterSet i) := ⟨_, rfl⟩
    have other : ∀ d ∈ cs, t.ch d = s.ch d := fun d mem => by
      rw [isNext, State.setCh_ch_other _ _ fun (same : d = c) => fresh (same ▸ mem)]
    have rest : (cs.filter fun d => (t.ch d).faultsAt i) = cs.filter fun d => (s.ch d).faultsAt i :=
      List.filter_congr fun d mem => by rw [other d mem]
    have notices (u : State) : (cs.filter fun d => (s.ch d).faultsAt i).foldl (fun u d => u.notify (t.faultNotice d)) u =
        (cs.filter fun d => (s.ch d).faultsAt i).foldl (fun u d => u.notify (s.faultNotice d)) u :=
      List.foldl_ext _ _ _ fun v d mem => by
        rw [State.faultNotice, State.faultNotice, other d (List.mem_filter.mp mem).1, isNext]
        rfl
    have taken : t.mapCh (fun d x => if d ∈ cs then x.afterSet i else x) =
        s.mapCh fun d x => if d ∈ c :: cs then x.afterSet i else x := by
      refine State.eq_of_ch (fun d => ?_) (by rw [isNext]; simp only [State.mapCh, State.setCh])
      rw [State.mapCh_ch, State.mapCh_ch]
      by_cases same : d = c
      · subst same
        simp [fresh, isNext, State.setCh_ch_same]
      · rw [isNext, State.setCh_ch_other _ _ same]
        simp [same]
    rw [List.foldl_cons, State.setChannel_eq enable role mode, ← isNext]
    by_cases faults : (s.ch c).faultsAt i = true
    · have first := ih nodup (t.notify (s.faultNotice c))
      have pushed : (t.notify (s.faultNotice c)).mapCh (fun d x => if d ∈ cs then x.afterSet i else x) =
          (t.mapCh fun d x => if d ∈ cs then x.afterSet i else x).notify (s.faultNotice c) := rfl
      rw [if_pos faults, List.filter_cons_of_pos (by exact faults), List.foldl_cons, ← taken, ← pushed, ← notices, ← rest]
      exact first
    · rw [if_neg faults, List.filter_cons_of_neg (by exact faults), ← taken, ← notices, ← rest]
      exact ih nodup t

end

/-! ### The tests in their order (R21) -/

section
variable {s : State} {mask : Vector Bool 16} {i : ChanItems}

theorem channelSetItems_of_freezing (freezing : s.ctl.run = .freezing) :
    channelSetItems mask i s = refuse s .busy := if_pos freezing

theorem channelSetItems_of_armed (armed : s.ctl.run = .armed) (beyond : i.beyondArmed = true) :
    channelSetItems mask i s = refuse s .state :=
  (if_neg (by simp [armed])).trans (if_pos ⟨armed, beyond⟩)

variable (running : s.ctl.run ≠ .freezing) (allowed : ¬(s.ctl.run = .armed ∧ i.beyondArmed = true))
include running allowed

theorem channelSetItems_of_bad (bad : countSet mask = 0 ∨ i.codesOk = false) :
    channelSetItems mask i s = refuse s .range :=
  (if_neg running).trans ((if_neg allowed).trans (if_pos bad))

variable (good : ¬(countSet mask = 0 ∨ i.codesOk = false))
include good

theorem channelSetItems_of_claimed {c : Chan} (inMask : mask[c] = true) (claimed : s.claimed c = true) :
    channelSetItems mask i s = refuse s .busy :=
  (if_neg running).trans ((if_neg allowed).trans ((if_neg good).trans (if_pos (by
    simp only [List.any_eq_true, Bool.and_eq_true]
    exact ⟨c, mem_allChans c, inMask, claimed⟩))))

theorem channelSetItems_of_free (free : ∀ c : Chan, mask[c] = true → s.claimed c = false) :
    channelSetItems mask i s = ((allChans.filter fun c => mask[c]).foldl (State.setChannel i) s, doneOr i.clamps, []) :=
  (if_neg running).trans ((if_neg allowed).trans ((if_neg good).trans (if_neg (by
    simp only [List.any_eq_true, Bool.and_eq_true, not_exists, not_and]
    exact fun c _ inMask => by simp [free c inMask]))))

end

/-- Some item carried lies outside its range, where the codes of the first three are listed (R21, 2.2). -/
theorem clamps_iff {item : Fin 11 → Option Nat} {hi : Fin 11 → Nat}
    (isHi : hi = ![1, 2, 1, 90, 40, 40, 65535, 65535, 65535, 1048575, 4])
    (listed : ∀ n v, n < 3 → item n = some v → v ≤ hi n) : (ChanItems.ofItems item).clamps = true ↔
    ∃ n v, item n = some v ∧ (hi n < v ∨ (v = 0 ∧ (n = 6 ∨ n = 7 ∨ n = 9 ∨ n = 10))) := by
  obtain ⟨lo, isLo⟩ : ∃ lo : Fin 11 → Nat, lo = ![0, 0, 0, 0, 0, 0, 1, 1, 0, 1, 1] := ⟨_, rfl⟩
  have zero (n : Fin 11) (v : Nat) : v < lo n ↔ v = 0 ∧ (n = 6 ∨ n = 7 ∨ n = 9 ∨ n = 10) := by
    have low : lo n = if n = 6 ∨ n = 7 ∨ n = 9 ∨ n = 10 then 1 else 0 := by
      subst isLo
      revert n
      decide
    rw [low]
    split
    · next some => simp [some]
    · next none => simp [none]
  have numbers : (ChanItems.ofItems item).clamps = true ↔
      ∃ n ∈ ([3, 4, 5, 6, 7, 8, 9, 10] : List (Fin 11)), ∃ v, item n = some v ∧ (v < lo n ∨ hi n < v) := by
    subst isLo isHi
    simp [ChanItems.clamps, ChanItems.ofItems, itemOutside_iff, or_assoc]
  have high : ∀ n : Fin 11, n ∈ ([3, 4, 5, 6, 7, 8, 9, 10] : List (Fin 11)) ↔ ¬n < 3 := by decide
  rw [numbers]
  constructor
  · rintro ⟨n, -, v, carried, out⟩
    exact ⟨n, v, carried, out.symm.imp_right (zero n v).mp⟩
  · rintro ⟨n, v, carried, out⟩
    refine ⟨n, (high n).mpr fun low => ?_, v, carried, out.symm.imp_left (zero n v).mpr⟩
    rcases out with above | ⟨-, numeric⟩
    · exact Nat.not_le.mpr above (listed n v low carried)
    · rcases numeric with rfl | rfl | rfl | rfl <;> exact absurd low (by decide)

end Sys2Proof.Machine

namespace Sys2Proof

open Machine

/-- Settles O22: the payload's items are read back, then each test in its order, then the channels of the mask. -/
theorem channelSetByItsTests : Obligations.ChannelSetByItsTests := by
  intro s f rest m1 m0 i1 i0 raw mask item width hi takes isKind isMask isWidth isHi isSel
  have ofRow : kindIs 0x04#8 f = true := beq_iff_eq.mpr isKind
  have isSel : ∀ n : Fin 11, (item n).isSome = (nat16 i1 i0).testBit n.val := isSel
  have answers {t : State} {r : Result} (rule : channelSetRule f.payload (s.withReady rest) = (t, r, [])) :
      Answers .channelSet s f t r [] := takes.answers (isRow := kindIs 0x04#8) rfl ofRow rule
  refine ⟨fun short => answers (channelSetRule_of_short short _), fun isPayload => ⟨fun wrong => answers ?_,
    fun fit isRaw beyond bad isBeyond isBad => ?_⟩⟩
  · rw [← itemsLength_items isWidth isSel] at wrong
    rw [isPayload]
    exact if_neg wrong
  · have length : raw.length = itemsLength (nat16 i1 i0) 0 itemWidths := by
      rw [itemsLength_items isWidth isSel, isRaw, List.length_flatMap]
      refine congrArg List.sum (List.map_congr_left fun n _ => ?_)
      cases item n <;> simp
    have items : chanItems (nat16 i1 i0) raw = ChanItems.ofItems item := by
      rw [isRaw]
      exact chanItems_items isWidth isSel fit
    have rule : channelSetRule f.payload (s.withReady rest) =
        channelSetItems (maskSet (nat16 m1 m0)) (ChanItems.ofItems item) (s.withReady rest) := by
      rw [isPayload, ← items]
      exact if_pos length
    have inMask (c : Chan) : (maskSet (nat16 m1 m0))[c] = mask c := by rw [maskSet_getElem, isMask, nat16_eq]
    have isBeyond : beyond ↔ (ChanItems.ofItems item).beyondArmed = true := by rw [isBeyond, beyondArmed_iff]
    have isBad : bad ↔ countSet (maskSet (nat16 m1 m0)) = 0 ∨ (ChanItems.ofItems item).codesOk = false := by
      rw [isBad, countSet_eq_zero, codesOk_iff isHi]
      simp only [inMask]
    refine ⟨fun freezing => answers (rule.trans (channelSetItems_of_freezing freezing)),
      fun armed far => answers (rule.trans (channelSetItems_of_armed armed (isBeyond.mp far))),
      fun running allowed => ?_⟩
    have allowed' : ¬((s.withReady rest).ctl.run = .armed ∧ (ChanItems.ofItems item).beyondArmed = true) := by
      rwa [← isBeyond]
    refine ⟨fun isBad' => answers (rule.trans (channelSetItems_of_bad running allowed' (isBad.mp isBad'))),
      fun good => ?_, fun good free put held thr base take t isPut isHeld isThr isBase isTake isNext => answers ?_⟩
    · rintro ⟨c, member, claimed⟩
      exact answers (rule.trans (channelSetItems_of_claimed running allowed' (by rwa [← isBad])
        ((inMask c).trans member) claimed))
    · rw [rule, channelSetItems_of_free (s := s.withReady rest) running allowed' (by rwa [← isBad]) fun c member =>
        free c ((inMask c).symm.trans member)]
      rw [isBad, not_or, codesOk_iff isHi] at good
      have listed : ∀ n v, n < 3 → item n = some v → v ≤ hi n := fun n v low carried =>
        Nat.not_lt.mp fun above => good.2 ⟨n, v, low, carried, above⟩
      have result : doneOr (ChanItems.ofItems item).clamps =
          if ∃ n v, item n = some v ∧ (hi n < v ∨ (v = 0 ∧ (n = 6 ∨ n = 7 ∨ n = 9 ∨ n = 10))) then .clamped else .done := by
        simp only [doneOr_eq, clamps_iff isHi listed]
      have isItem (n : Fin 11) (lo old : Nat) : put n lo old = itemOr lo (hi n) old (item n) := by
        rw [isPut]
        cases item n <;> rfl
      have isHeld (x : Channel) : held x = x.holdsThr := by
        rw [isHeld]
        rfl
      have isThr (x : Channel) : thr x = x.codeWith (item 3) := by
        rw [isThr, isHeld, isItem, Channel.codeWith]
        subst isHi
        rfl
      have enable (v : Nat) (carried : item 0 = some v) : v ≤ 1 := by
        have top := listed 0 v (by decide) carried
        rwa [isHi] at top
      have role (v : Nat) (carried : item 1 = some v) : v ≤ 2 := by
        have top := listed 1 v (by decide) carried
        rwa [isHi] at top
      have mode (v : Nat) (carried : item 2 = some v) : v ≤ 1 := by
        have top := listed 2 v (by decide) carried
        rwa [isHi] at top
      have isBase (x : Channel) : base x = x.carries (ChanItems.ofItems item) := by
        rw [isBase, Channel.carries_eq x role mode]
        simp only [isItem, isThr, isHeld]
        subst isHi
        rfl
      have isTake (x : Channel) : take x = x.afterSet (ChanItems.ofItems item) := by
        rw [isTake, isBase]
        rfl
      have told : ((allChans.filter fun c => (maskSet (nat16 m1 m0))[c]).filter fun c =>
          ((s.withReady rest).ch c).faultsAt (ChanItems.ofItems item)) = allChans.filter fun c =>
            decide (mask c = true ∧ item 0 = some 1 ∧ (s.ch c).state = .off ∧ (s.ch c).lane = .lost) := by
        rw [List.filter_filter]
        refine List.filter_congr fun c _ => ?_
        rw [inMask, Bool.eq_iff_iff, Bool.and_eq_true, and_comm, Channel.faultsAt, decide_eq_true_eq, decide_eq_true_eq]
        rfl
      have chans : ((s.withReady rest).mapCh fun c x =>
          if c ∈ allChans.filter (fun c => (maskSet (nat16 m1 m0))[c]) then x.afterSet (ChanItems.ofItems item) else x) =
            (s.withReady rest).mapCh fun c x => if mask c = true then take x else x :=
        congrArg (State.mapCh _) (funext fun c => funext fun x => by
          rw [isTake]
          simp only [List.mem_filter, mem_allChans, true_and, inMask])
      rw [State.foldl_setChannel enable role mode (allChans_nodup.filter _), result, isNext, told, chans]
      rfl

end Sys2Proof
end

section
/-! PROOFS. A check in progress (07): gathering, pulses and the pins they drive, the listening window and its pairs. -/

namespace Sys2Proof.Machine

/-! ### The check that can advance (R2, R136) -/

theorem State.movingCheck_of_not_held {s : State} (free : ¬s.ChecksHeld) : s.movingCheck = s.chk.check :=
  State.movingCheck_of_moves (s.held_or_moves.resolve_left free)

theorem Check.owns_iff (ck : Check) (c : Chan) :
    ck.owns c = true ↔ ck.involved[c] = true ∧ ck.removed[c] = false := by
  simp [Check.owns]

theorem State.gathered_iff (s : State) (ck : Check) : s.gathered ck = true ↔
    ∀ c : Chan, ck.involved[c] = true → ck.removed[c] = false → (s.ch c).state = .testing := by
  simp only [State.gathered, List.all_eq_true, mem_allChans, true_imp_iff, Bool.or_eq_true, Bool.not_eq_true',
    decide_eq_true_eq, ← Bool.not_eq_true, Check.owns_iff, not_and]
  exact forall_congr' fun c => by tauto

theorem Check.windowClosed_iff (ck : Check) :
    ck.windowClosed = true ↔ ∀ q, ck.pulse = some q → q.windowOpen = false := by
  unfold Check.windowClosed
  cases ck.pulse <;> simp

/-- The removed pulsers are skipped (R138). -/
theorem Check.remaining_of_append {ck : Check} {skip later : List Chan} {p : Chan}
    (pulsers : ck.pulsers = skip ++ p :: later) (skipped : ∀ c ∈ skip, ck.removed[c] = true)
    (present : ck.removed[p] = false) : ck.remaining = p :: later.filter fun c => !ck.removed[c] := by
  have none : skip.filter (fun c => !ck.removed[c]) = [] := by simpa [List.filter_eq_nil_iff] using skipped
  rw [Check.remaining, pulsers, List.filter_append, none, List.nil_append, List.filter_cons_of_pos (by simpa using present)]

theorem Check.remaining_eq_nil (ck : Check) : ck.remaining = [] ↔ ∀ c ∈ ck.pulsers, ck.removed[c] = true := by
  simp [Check.remaining, List.filter_eq_nil_iff]

section
variable {s : State} {ck : Check} (progress : s.chk.check = some ck)
include progress

theorem State.gatheringComplete_of_gathered (free : ¬s.ChecksHeld) (still : ck.running = false)
    (gathered : ∀ c : Chan, ck.involved[c] = true → ck.removed[c] = false → (s.ch c).state = .testing) :
    s.gatheringComplete = { s with chk := { s.chk with
      check := some { ck with running := true, entered := s.tick, nextPulse := s.tick + 1 } } } := by
  have all := (s.gathered_iff ck).mpr gathered
  simp [State.gatheringComplete, State.movingCheck_of_not_held free, progress, still, all]

theorem State.gatheringComplete_of_other (other : s.ChecksHeld ∨ ck.running = true ∨
    ∃ c : Chan, ck.involved[c] = true ∧ ck.removed[c] = false ∧ (s.ch c).state ≠ .testing) :
    s.gatheringComplete = s := by
  by_cases held : s.ChecksHeld
  · exact State.gatheringComplete_of_held held
  · have open' : (!ck.running && s.gathered ck) = false := by
      rw [← Bool.not_eq_true, Bool.and_eq_true, s.gathered_iff]
      rintro ⟨still, gathered⟩
      rcases other with h | runs | ⟨c, involved, present, waits⟩
      · exact held h
      · simp [runs] at still
      · exact waits (gathered c involved present)
    simp [State.gatheringComplete, State.movingCheck_of_not_held held, progress, open']

/-- The next pulser that has not been removed is driven (R29, R136). -/
theorem State.pulse_of_due {skip later : List Chan} {p : Chan} (free : ¬s.ChecksHeld) (runs : ck.running = true)
    (kind : ck.kind ≠ .pattern) (pulsers : ck.pulsers = skip ++ p :: later)
    (skipped : ∀ c ∈ skip, ck.removed[c] = true) (present : ck.removed[p] = false) (due : ck.nextPulse ≤ s.tick)
    (closed : ∀ q, ck.pulse = some q → q.windowOpen = false) :
    s.pulse = { s with chk := { s.chk with check := some { ck with
      pulsers := later.filter fun c => !ck.removed[c]
      pulse := some ⟨p, s.tick, (s.ch p).cfg.pulserLevel, true, Vector.replicate 16 none⟩
      nextPulse := s.tick + ck.lw + 5000 * ck.ringDown + 1
      pulses := ck.pulses + 1 } } } := by
  have remaining := Check.remaining_of_append pulsers skipped present
  have window := ck.windowClosed_iff.mpr closed
  simp only [State.pulse, State.movingCheck_of_not_held free, progress, remaining, runs, window, kind, due, Check.drive,
    ne_eq, not_false_eq_true, decide_true, Bool.and_self, if_true, List.tail_cons]
  rfl

theorem State.pulse_of_other (other : s.ChecksHeld ∨ ck.running = false ∨ ck.kind = .pattern ∨ s.tick < ck.nextPulse ∨
    (∀ c ∈ ck.pulsers, ck.removed[c] = true) ∨ ∃ q, ck.pulse = some q ∧ q.windowOpen = true) : s.pulse = s := by
  by_cases held : s.ChecksHeld
  · exact State.pulse_of_held held
  · simp only [State.pulse, State.movingCheck_of_not_held held, progress]
    split
    · rfl
    · next p later remaining =>
      rw [if_neg]
      simp only [Bool.and_eq_true, decide_eq_true_eq, ck.windowClosed_iff]
      rintro ⟨⟨⟨runs, kind⟩, closed⟩, due⟩
      rcases other with h | still | pattern | early | gone | ⟨q, pulse, open'⟩
      · exact held h
      · simp [still] at runs
      · exact kind pattern
      · exact Nat.not_lt.mpr due early
      · rw [(ck.remaining_eq_nil).mpr gone] at remaining
        exact nomatch remaining
      · simp [closed q pulse] at open'

end

theorem State.pulserDrive_iff (s : State) (n : Chan) (level : Nat) : s.pulserDrive n = some level ↔
    ∃ ck p, s.chk.check = some ck ∧ ck.pulse = some p ∧ p.pulser = n ∧ p.t0 = s.tick ∧ p.level = level := by
  unfold State.pulserDrive
  cases s.chk.check with
  | none => simp
  | some ck =>
    cases pulse : ck.pulse with
    | none => simp [pulse]
    | some p => simp [pulse, and_assoc]

theorem lineActive_iff (m : ActMap) (nc : Nat) (n : Fin 4) : m.lineActive nc n = true ↔
    ∃ i x, m.cells[i]? = some x ∧ x.level = .active ∧ n.val = lineOf m.mode nc (i % nc) := by
  simp only [ActMap.lineActive, List.any_eq_true, Bool.and_eq_true, decide_eq_true_eq, Prod.exists,
    List.mem_zipIdx_iff_getElem?]
  exact ⟨fun ⟨x, i, here, active, line⟩ => ⟨i, x, here, active, line.symm⟩,
    fun ⟨i, x, here, active, line⟩ => ⟨x, i, here, active, line.symm⟩⟩

theorem State.lines_iff (s : State) (n : Fin 4) : s.lines[n] = true ↔
    s.map.lineOn[n] = true ∧ s.map.ack[n] = false ∧ s.map.lineActive s.loc.columns n = true := by
  simp [State.lines, and_assoc]

/-! ### Listening (R137) -/

theorem Channel.heard_of_testing {x : Channel} (testing : x.state = .testing) (good : x.lane = .good) (mag : Nat) :
    x.heard mag = { x with
      missingRun := 0, prevMag := mag, frameSeen := true, blockPos := x.blockPos + 1, blockBad := true } := by
  simp [Channel.heard, Channel.validFrame_eq, Channel.noiseFrame, testing, good]

theorem State.takeSample_of_testing {s : State} {c : Chan} {v : Sample} (testing : (s.ch c).state = .testing) :
    s.takeSample c v = (s.setCh c ((s.ch c).heard (magnitude v))).sampleTesting c (magnitude v)
      (isCount (s.ch c).thr (s.ch c).prevMag (magnitude v)) := by
  simp only [State.takeSample, testing]
  rfl

theorem Check.listens_iff (ck : Check) (q : Pulse) (c : Chan) (tick : Nat) : ck.listens q c tick = true ↔
    ck.running = true ∧ q.windowOpen = true ∧ (ck.involved[c] = true ∧ ck.removed[c] = false) ∧ c ≠ q.pulser ∧
      q.t0 < tick ∧ tick ≤ q.t0 + ck.lw := by
  simp only [Check.listens, Bool.and_eq_true, decide_eq_true_eq, Check.owns_iff, and_assoc]

section
variable {s : State} {ck : Check} (progress : s.chk.check = some ck) {c : Chan} {mag : Nat} {count : Bool}
include progress

theorem State.sampleTesting_of_listening {q : Pulse} (free : ¬s.ChecksHeld) (pulse : ck.pulse = some q)
    (listens : ck.listens q c s.tick = true) : s.sampleTesting c mag count = { s with chk := { s.chk with
      check := some { ck with
        pulse := some { q with resp := q.resp.set c (Resp.sample q.resp[c] q.t0 s.tick mag count) } } } } := by
  simp only [State.sampleTesting, State.movingCheck_of_not_held free, progress, pulse, listens, if_true]

theorem State.sampleTesting_of_other
    (other : s.ChecksHeld ∨ ∀ q, ck.pulse = some q → ck.listens q c s.tick = false) :
    s.sampleTesting c mag count = s := by
  by_cases held : s.ChecksHeld
  · exact State.sampleTesting_of_held held c mag count
  · simp only [State.sampleTesting, State.movingCheck_of_not_held held, progress]
    split
    · rfl
    · next q pulse => rw [(other.resolve_left held) q pulse, if_neg Bool.false_ne_true]

end

/-! ### The end of the window (R137) -/

theorem pairPulser_pairIndex (p l : Chan) : pairPulser (pairIndex p l) = p :=
  Fin.ext (by simp only [pairPulser, pairIndex]; omega)

theorem pairListener_pairIndex (p l : Chan) : pairListener (pairIndex p l) = l :=
  Fin.ext (by simp only [pairListener, pairIndex]; omega)

theorem Check.listener_iff (ck : Check) (p c : Chan) :
    ck.listener p c = true ↔ (ck.involved[c] = true ∧ ck.removed[c] = false) ∧ c ≠ p := by
  simp only [Check.listener, Bool.and_eq_true, decide_eq_true_eq, Check.owns_iff]

theorem State.windowOver_iff (s : State) (ck : Check) (q : Pulse) : s.windowOver ck q = true ↔
    q.t0 + ck.lw < s.tick ∨ (q.t0 + ck.lw = s.tick ∧ ∀ c : Chan, ck.involved[c] = true → ck.removed[c] = false →
      c ≠ q.pulser → (s.ch c).frameSeen = true) := by
  have seen : (allChans.all fun c => !ck.listener q.pulser c || (s.ch c).frameSeen) = true ↔
      ∀ c : Chan, ck.involved[c] = true → ck.removed[c] = false → c ≠ q.pulser → (s.ch c).frameSeen = true := by
    simp only [List.all_eq_true, mem_allChans, true_imp_iff, Bool.or_eq_true, Bool.not_eq_true', ← Bool.not_eq_true,
      Check.listener_iff]
    exact forall_congr' fun c => by tauto
  rw [State.windowOver, passed_iff, seen]

/-- The pairs after the window of the pulse q (R137). -/
def Check.pairsAfter (ck : Check) (q : Pulse) : Vector Meas 256 :=
  Vector.ofFn fun i => if pairPulser i = q.pulser ∧ ck.listener q.pulser (pairListener i) then
    measOf q.resp[pairListener i] else ck.pairs[i]

theorem Check.pairsAfter_getElem (ck : Check) (q : Pulse) (p l : Chan) : (ck.pairsAfter q)[pairIndex p l] =
    if p = q.pulser ∧ ck.listener q.pulser l then measOf q.resp[l] else ck.pairs[pairIndex p l] := by
  have here : (ck.pairsAfter q)[pairIndex p l] = if pairPulser (pairIndex p l) = q.pulser ∧
      ck.listener q.pulser (pairListener (pairIndex p l)) then measOf q.resp[pairListener (pairIndex p l)]
      else ck.pairs[pairIndex p l] := by
    simp [Check.pairsAfter]
  simpa only [pairPulser_pairIndex, pairListener_pairIndex] using here

section
variable {s : State} {ck : Check} {q : Pulse} (progress : s.chk.check = some ck) (pulse : ck.pulse = some q)
include progress pulse

theorem State.listeningWindowEnd_of_over (free : ¬s.ChecksHeld) (open' : q.windowOpen = true)
    (past : s.windowOver ck q = true) : s.listeningWindowEnd = { s with chk := { s.chk with
      check := some { ck with pulse := some { q with windowOpen := false }, pairs := ck.pairsAfter q } } } := by
  simp only [State.listeningWindowEnd, State.movingCheck_of_not_held free, progress, pulse, open', past, Bool.and_self,
    if_true]
  rfl

theorem State.listeningWindowEnd_of_other (other : s.ChecksHeld ∨ q.windowOpen = false ∨ s.tick < q.t0 + ck.lw) :
    s.listeningWindowEnd = s := by
  by_cases held : s.ChecksHeld
  · exact State.listeningWindowEnd_of_held held
  · simp only [State.listeningWindowEnd, State.movingCheck_of_not_held held, progress, pulse]
    rw [if_neg]
    rw [Bool.and_eq_true, s.windowOver_iff]
    rintro ⟨open', past⟩
    rcases other with h | closed | early
    · exact held h
    · simp [closed] at open'
    · omega

end

end Sys2Proof.Machine

namespace Sys2Proof

open Machine

/-- Settles O42: each of the two steps by its condition. -/
theorem gatheringAndPulses : Obligations.GatheringAndPulses := by
  intro s ck running progress
  have gathering : exec .gatheringComplete s = .next s.gatheringComplete := live_of_running _ running
  have pulsing : exec .pulse s = .next s.pulse := live_of_running _ running
  rw [gathering, pulsing]
  refine ⟨fun free still gathered => ?_, fun other => ?_, fun skip later p free runs kind pulsers skipped present due
    closed => ?_, fun other => ?_⟩
  · rw [State.gatheringComplete_of_gathered progress free still gathered]
  · rw [State.gatheringComplete_of_other progress other]
  · rw [State.pulse_of_due progress free runs kind pulsers skipped present due closed]
  · rw [State.pulse_of_other progress other]

/-- Settles O36: each pin by its definition, the pulser's after the pulse that drives it. -/
theorem linesFollowTheCells : Obligations.LinesFollowTheCells := by
  refine ⟨fun s n => ⟨fun g loaded => ?_, fun empty => ?_, rfl⟩, fun s => ?_, fun s n level => s.pulserDrive_iff n level,
    fun s ck skip later p running progress free runs kind pulsers skipped present due closed => ?_⟩
  · have columns : s.loc.columns = g.nc := by simp [Locator.columns, loaded]
    rw [s.lines_iff, lineActive_iff, columns]
    rfl
  · have none : s.map.lineActive s.loc.columns n = false := by simp [ActMap.lineActive, empty]
    rw [← Bool.not_eq_true, s.lines_iff, none]
    simp
  · simp [State.prdy, Config.slotCap]
  · have live : exec .pulse s = .next s.pulse := live_of_running _ running
    refine ⟨_, live.trans (congrArg _
      (State.pulse_of_due progress free runs kind pulsers skipped present due closed)), ?_, fun n other => ?_⟩
    · rw [State.pulserDrive_iff]
      exact ⟨_, _, rfl, rfl, rfl, rfl, rfl⟩
    · rw [Option.eq_none_iff_forall_ne_some]
      intro level driven
      rw [State.pulserDrive_iff] at driven
      obtain ⟨ck', q, check, pulse, pulser, -, -⟩ := driven
      obtain rfl : _ = ck' := Option.some.inj check
      obtain rfl : _ = q := Option.some.inj pulse
      exact other pulser.symm

/-- Settles O43: a sample by whether its channel listens, the window's end by whether it is due. -/
theorem listeningMeasuresPairs : Obligations.ListeningMeasuresPairs := by
  refine ⟨fun s c x y sample mag ck running here fresh nothing testing good isMag progress isNext => ?_,
    fun s ck q running progress pulse => ?_⟩
  · subst here
    have live : exec (.laneSample c sample) s = .next (s.laneSample c sample) := live_of_running _ running
    have isMag : magnitude sample = mag := isMag.symm
    have heard : (s.ch c).heard mag = y := (Channel.heard_of_testing testing good mag).trans isNext.symm
    have check : (s.setCh c y).chk.check = some ck := progress
    rw [live, State.laneSample_of_nothingDue fresh nothing, State.takeSample_of_testing testing, isMag, heard]
    refine ⟨fun q pulse free runs open' involved present other late early r isResp => ?_, fun deaf => ?_⟩
    · have listens : ck.listens q c s.tick = true :=
        (ck.listens_iff q c s.tick).mpr ⟨runs, open', ⟨involved, present⟩, other, late, early⟩
      have resp : Resp.sample q.resp[c] q.t0 s.tick mag (isCount (s.ch c).thr (s.ch c).prevMag mag) = r := by
        rw [isResp]
        cases q.resp[c] with
        | none => simp only [Resp.sample, isCount_iff]
        | some v => rfl
      rw [State.sampleTesting_of_listening check free pulse listens, State.setCh_tick, resp]
      rfl
    · rw [State.sampleTesting_of_other check (deaf.imp_right fun closed q pulse => ?_)]
      rw [← Bool.not_eq_true, ck.listens_iff]
      rintro ⟨-, open', -, other, late, early⟩
      rcases closed q pulse with h | h | h | h
      · simp [h] at open'
      · exact other h
      · exact Nat.not_lt.mpr h late
      · exact Nat.not_lt.mpr early h
  · have live : exec .listeningWindowEnd s = .next s.listeningWindowEnd := live_of_running _ running
    rw [live]
    refine ⟨fun free open' past => ⟨ck.pairsAfter q, ?_, fun p l => ⟨fun pulser other involved present => ?_,
      fun none => ?_⟩⟩, fun other => ?_⟩
    · rw [State.listeningWindowEnd_of_over progress pulse free open' ((s.windowOver_iff ck q).mpr past)]
    · rw [ck.pairsAfter_getElem, if_pos ⟨pulser, (ck.listener_iff q.pulser l).mpr ⟨⟨involved, present⟩, pulser ▸ other⟩⟩]
      rfl
    · rw [ck.pairsAfter_getElem, if_neg]
      rintro ⟨pulser, listener⟩
      obtain ⟨⟨involved, present⟩, other⟩ := (ck.listener_iff q.pulser l).mp listener
      rcases none with h | h | h | h
      · exact h pulser
      · exact other (h.trans pulser)
      · simp [h] at involved
      · simp [h] at present
    · rw [State.listeningWindowEnd_of_other progress pulse other]

end Sys2Proof
end

section
/-! PROOFS. CHECK START of each kind, PATTERN LOAD and CHECK ABORT (07): their tests in order, and what they begin, store
or end. -/

namespace Sys2Proof.Machine

/-! ### The rows of CHECK START (R133, log 5) -/

theorem kindHead_of_cons {f : Frame} {kind k : Byte} {raw : List Byte} (isKind : f.kind = kind)
    (payload : f.payload = k :: raw) (b : Byte) : kindHead kind b f = decide (k = b) := by
  simp [kindHead, isKind, payload, beq_eq_decide]

theorem isCheckShort_of_nil {f : Frame} (isKind : f.kind = 0x15#8) (payload : f.payload = []) :
    isCheckShort f = true := by
  simp [isCheckShort, kindIs, kindHead, isKind, payload]

theorem isCheckShort_of_cons {f : Frame} {k : Byte} {raw : List Byte} (isKind : f.kind = 0x15#8)
    (payload : f.payload = k :: raw) (notLong : k ≠ 2#8) (notPattern : k ≠ 3#8) : isCheckShort f = true := by
  rw [isCheckShort, kindHead_of_cons isKind payload, kindHead_of_cons isKind payload]
  simp [kindIs, isKind, notLong, notPattern]

theorem checkStartShortRule_length : AsksLength checkStartShortRule 9 := by
  intro payload s bad
  unfold checkStartShortRule
  split
  · simp at bad
  · rfl

theorem checkStartLongRule_length : AsksLength checkStartLongRule 7 := by
  intro payload s bad
  unfold checkStartLongRule
  split
  · simp at bad
  · rfl

theorem checkStartPatternRule_length : AsksLength checkStartPatternRule 5 := by
  intro payload s bad
  unfold checkStartPatternRule
  split
  · simp at bad
  · rfl

/-- A kind that is not listed is FORMAT, whatever follows it (R133, log 5). -/
theorem checkStartShortRule_of_kind {k : Byte} (other : k ≠ 1#8) (raw : List Byte) (s : State) :
    checkStartShortRule (k :: raw) s = refuse s .format := by
  unfold checkStartShortRule
  split
  · next same =>
    obtain ⟨rfl, -⟩ := List.cons.inj same
    exact if_neg other
  · rfl

/-! ### Tests 2 to 4 (R133) -/

section
variable {s : State}

theorem State.pulseCheckTest_of_busy (busy : s.ctl.run = .freezing ∨ s.chk.check ≠ none) :
    s.pulseCheckTest = some .busy := by
  unfold State.pulseCheckTest
  split
  · rfl
  · next running => rw [if_pos (Option.isSome_iff_ne_none.mpr (busy.resolve_left running))]

variable (ready : s.chk.check = none)
include ready

theorem State.pulseCheckTest_of_phase (armed : s.ctl.run = .armed) (phase : s.press.phase ≠ .hold) :
    s.pulseCheckTest = some .state := by
  simp [State.pulseCheckTest, armed, ready, phase]

theorem State.pulseCheckTest_of_free (running : s.ctl.run ≠ .freezing)
    (phase : s.ctl.run = .armed → s.press.phase = .hold) : s.pulseCheckTest = none := by
  simp only [State.pulseCheckTest, ready, running, if_false, Option.isSome_none, Bool.false_eq_true]
  exact if_neg fun ⟨armed, moving⟩ => moving (phase armed)

theorem State.patternCheckTest_of_idle (idle : s.ctl.run = .idle) : s.patternCheckTest = none := by
  simp [State.patternCheckTest, idle, ready]

theorem State.patternCheckTest_of_run (run : s.ctl.run = .armed ∨ s.ctl.run = .frozen) :
    s.patternCheckTest = some .state := by
  rcases run with run | run <;> simp [State.patternCheckTest, run, ready]

end

theorem State.patternCheckTest_of_busy {s : State} (busy : s.ctl.run = .freezing ∨ s.chk.check ≠ none) :
    s.patternCheckTest = some .busy := by
  unfold State.patternCheckTest
  split
  · rfl
  · next running => rw [if_pos (Option.isSome_iff_ne_none.mpr (busy.resolve_left running))]

/-! ### The check begun (R28, R58, R134) -/

theorem State.usable_iff (s : State) (c : Chan) :
    s.usable c = true ↔ (s.ch c).cfg.enable = true ∧ (s.ch c).lane = .good := by simp [State.usable]

theorem policyOf_code (p : Policy) : policyOf p.code = some p := by cases p <;> rfl

theorem policyOf_none {n : Nat} (above : 1 < n) : policyOf n = none := by
  match n, above with
  | n + 2, _ => rfl

/-- The take of a CHECK START as one change (R28, R58). -/
theorem State.beginCheck_eq (s : State) (ck : Check) (policy : Policy) : s.beginCheck ck policy = State.mapCh
    { s with
      chk := { s.chk with policy := policy, check := some ck }
      dropRange := if s.ctl.run = .armed then some (openSpan s.tick s.dropRange) else s.dropRange }
    (fun c x => if ck.involved[c] = true then
      { x with state := if x.state = .quiet then .testing else x.state, leftCheck := false } else x) := by
  unfold State.beginCheck
  dsimp only
  split <;> simp only [State.mapCh]

theorem timesClamped_iff {lw rd tol : Nat} (lwField : lw < 65536) (rdField : rd < 256) :
    timesClamped lw rd tol = true ↔ lw = 0 ∨ rd = 0 ∨ 40 < tol := by
  simp only [timesClamped, outside, Bool.or_eq_true, decide_eq_true_eq]
  omega

theorem clampTo_of_le {lo hi v : Nat} (le : v ≤ hi) : clampTo lo hi v = max lo v := by
  rw [clampTo_eq, Nat.min_eq_right le]

theorem clampTo_zero (hi v : Nat) : clampTo 0 hi v = min hi v := by rw [clampTo_eq, Nat.zero_max]

theorem State.shortListeners_getElem (s : State) (p : Chan) (mask : Vector Bool 16) (c : Chan) :
    (s.shortListeners p mask)[c] = (mask[c] && s.usable c && decide (c ≠ p)) := by
  simp [State.shortListeners]

/-- A SHORT check is refused with RANGE for its pulser, its policy or no listener (R133). -/
theorem checkShort_of_bad {s : State} {p pol : Nat} {mask : Vector Bool 16} (lw rd tol : Nat)
    (bad : 15 < p ∨ 1 < pol ∨ (∀ c : Chan, c.val = p → s.usable c = false) ∨
      ∀ c d : Chan, c.val = p → (s.shortListeners c mask)[d] = false) :
    checkShort p mask lw rd tol pol s = refuse s .range := by
  unfold checkShort
  split
  · next inside =>
    split
    · rfl
    · next policy listed =>
      rw [if_neg]
      rintro ⟨usable, some⟩
      rcases bad with h | h | h | h
      · omega
      · rw [policyOf_none h] at listed
        exact nomatch listed
      · simp [h ⟨p, inside⟩ rfl] at usable
      · exact some ((countSet_eq_zero _).mpr fun d => h ⟨p, inside⟩ d rfl)
  · rfl

theorem checkShort_of_good {s : State} {a : Chan} {policy : Policy} {mask : Vector Bool 16} {lw rd tol : Nat}
    (usable : s.usable a = true) (some : ∃ c : Chan, (s.shortListeners a mask)[c] = true) :
    checkShort a.val mask lw rd tol policy.code s =
      (s.beginCheck (Check.start s .short ((s.shortListeners a mask).set a.val true) [a] (clampTo 1 65535 lw)
        (clampTo 1 255 rd) (clampTo 0 40 tol) false false 0) policy, doneOr (timesClamped lw rd tol), []) := by
  have listeners : countSet (s.shortListeners a mask) ≠ 0 := by
    rw [Ne, countSet_eq_zero]
    obtain ⟨c, listens⟩ := some
    exact fun none => by simp [none c] at listens
  rw [checkShort, dif_pos a.isLt, policyOf_code]
  exact if_pos ⟨usable, listeners⟩

theorem State.usableSet_getElem (s : State) (c : Chan) : (s.usableSet)[c] = s.usable c := by simp [State.usableSet]

/-- A LONG check is refused with RANGE for its policy, no pulser or less than two channels (R133). -/
theorem checkLong_of_bad {s : State} {pol : Nat} (lw rd tol opt : Nat)
    (bad : 1 < pol ∨ s.longPulsers = [] ∨ countSet s.usableSet < 2) : checkLong lw rd tol pol opt s = refuse s .range := by
  unfold checkLong
  split
  · rfl
  · next policy listed =>
    rw [if_pos]
    rcases bad with h | h | h
    · rw [policyOf_none h] at listed
      exact nomatch listed
    · exact .inl (by simp [h])
    · exact .inr h

theorem checkLong_of_good {s : State} {policy : Policy} (lw rd tol opt : Nat) (pulsers : s.longPulsers ≠ [])
    (two : 2 ≤ countSet s.usableSet) : checkLong lw rd tol policy.code opt s =
      (s.beginCheck (Check.start s .long s.usableSet s.longPulsers (clampTo 1 65535 lw) (clampTo 1 255 rd)
        (clampTo 0 40 tol) (opt.testBit 0) (opt.testBit 1) 0) policy, doneOr (timesClamped lw rd tol), []) := by
  simp only [checkLong, policyOf_code]
  rw [if_neg]
  rintro (empty | less)
  · exact pulsers (List.isEmpty_iff.mp empty)
  · omega

theorem State.patternSet_getElem (s : State) (mask : Vector Bool 16) (c : Chan) :
    (s.patternSet mask)[c] = (mask[c] && s.usable c) := by simp [State.patternSet]

/-- A PATTERN check is refused with RANGE for its slot, its policy or no channel (R133). -/
theorem checkPattern_of_bad {s : State} {pol slot : Nat} {mask : Vector Bool 16}
    (bad : 3 < slot ∨ 1 < pol ∨ (∀ n : Fin 4, n.val = slot → s.chk.patterns[n] = []) ∨
      ∀ c : Chan, (s.patternSet mask)[c] = false) : checkPattern pol slot mask s = refuse s .range := by
  unfold checkPattern
  split
  · next inside =>
    split
    · rfl
    · next policy listed =>
      rw [if_pos]
      rcases bad with h | h | h | h
      · omega
      · rw [policyOf_none h] at listed
        exact nomatch listed
      · exact .inl (List.isEmpty_iff.mpr (h ⟨slot, inside⟩ rfl))
      · exact .inr ((countSet_eq_zero _).mpr h)
  · rfl

theorem checkPattern_of_good {s : State} {policy : Policy} {n : Fin 4} {mask : Vector Bool 16}
    (loaded : s.chk.patterns[n] ≠ []) (some : ∃ c : Chan, (s.patternSet mask)[c] = true) :
    checkPattern policy.code n.val mask s =
      (s.beginCheck (Check.start s .pattern (s.patternSet mask) [] 0 0 0 false false n) policy, .done, []) := by
  have channels : countSet (s.patternSet mask) ≠ 0 := by
    rw [Ne, countSet_eq_zero]
    obtain ⟨c, member⟩ := some
    exact fun none => by simp [none c] at member
  rw [checkPattern, dif_pos n.isLt, policyOf_code]
  refine if_neg ?_
  rintro (empty | none)
  · exact loaded (List.isEmpty_iff.mp empty)
  · exact channels none

/-! ### PATTERN LOAD (R145) -/

theorem patternLoadRule_of_short {payload : List Byte} (short : payload.length < 4) (s : State) :
    patternLoadRule payload s = refuse s .format := by
  match payload, short with
  | [], _ => rfl
  | [_], _ => rfl
  | [_, _], _ => rfl
  | [_, _, _], _ => rfl

/-- The samples of a piece are read back (R191). -/
theorem samplesOf_flatMap (piece : List Sample) :
    samplesOf (piece.flatMap fun v => [BitVec.ofNat 8 (v.toNat / 256), BitVec.ofNat 8 v.toNat]) = piece := by
  induction piece with
  | nil => rfl
  | cons v piece ih =>
    have value : BitVec.ofNat 16 (nat16 (BitVec.ofNat 8 (v.toNat / 256)) (BitVec.ofNat 8 v.toNat)) = v := by
      have bound := v.isLt
      apply BitVec.eq_of_toNat_eq
      simp only [nat16, BitVec.toNat_ofNat]
      omega
    rw [List.flatMap_cons]
    simp only [List.cons_append, List.nil_append, samplesOf, value, ih]

theorem patternStore_of_run {s : State} (other : s.ctl.run ≠ .idle) (slot start : Nat) (piece : List Sample) :
    patternStore slot start piece s = refuse s .state := if_pos other

section
variable {s : State} (idle : s.ctl.run = .idle)
include idle

theorem patternStore_of_busy (busy : s.chk.check ≠ none) (slot start : Nat) (piece : List Sample) :
    patternStore slot start piece s = refuse s .busy :=
  (if_neg (not_not_intro idle)).trans (if_pos (Option.isSome_iff_ne_none.mpr busy))

variable (ready : s.chk.check = none)
include ready

theorem patternStore_of_slot {slot : Nat} (above : 3 < slot) (start : Nat) (piece : List Sample) :
    patternStore slot start piece s = refuse s .range := by
  rw [patternStore, if_neg (not_not_intro idle), if_neg (by simp [ready]), dif_neg (by omega)]

theorem patternStore_of_ready (n : Fin 4) (start : Nat) (piece : List Sample) :
    patternStore n.val start piece s =
      if (start = 0 ∨ start = (s.chk.patterns[n]).length) ∧ start + piece.length ≤ 256 then
        ({ s with chk := { s.chk with
            patterns := s.chk.patterns.set n.val (if start = 0 then piece else s.chk.patterns[n] ++ piece) } }, .done, [])
      else refuse s .range := by
  rw [patternStore, if_neg (not_not_intro idle), if_neg (by simp [ready]), dif_pos n.isLt]
  rfl

end

/-! ### CHECK ABORT (R148) -/

/-- The abort of a check as one change and its notice (R148). -/
theorem State.abortCheck_of_some {s : State} {ck : Check} (progress : s.chk.check = some ck) (why : AbortReason) :
    s.abortCheck why = State.notify
      (State.mapCh
        { s with
          chk := { s.chk with check := none }
          dropRange := if ck.startRun = .armed then closeSpan s.tick s.dropRange else s.dropRange }
        fun c x => if ck.involved[c] = true ∧ x.state = .testing then { x with state := .quiet } else x)
      (.checkResult ck.kind ck.startTick s.tick ck.startRun (.aborted why)) := by
  simp only [State.abortCheck, progress, State.releaseCheck, State.endSpan, Bool.and_eq_true, decide_eq_true_eq]
  split
  · rfl
  · rfl

/-- The release of a check and the end of its span as one change (R58, R147). -/
theorem State.releaseCheck_endSpan (s : State) (ck : Check) : (s.releaseCheck ck).endSpan ck = State.mapCh
    { s with
      chk := { s.chk with check := none }
      dropRange := if ck.startRun = .armed then closeSpan s.tick s.dropRange else s.dropRange }
    fun c x => if ck.involved[c] = true ∧ x.state = .testing then { x with state := .quiet } else x := by
  simp only [State.releaseCheck, State.endSpan, Bool.and_eq_true, decide_eq_true_eq]
  split
  · rfl
  · rfl

/-- CHECK ABORT with the frame it takes; the abort follows the reply (R148). -/
theorem State.checkAbort_of_taken {s : State} {f : Frame} {rest : List Frame} (takes : s.Takes f rest)
    (isKind : f.kind = 0x16#8) {s1 : State} {r : Result} (rule : checkAbortRule f.payload (s.withReady rest) = (s1, r, [])) :
    exec .checkAbort s = .next (if f.payload.isEmpty then (s1.answer f r []).abortCheck .request
      else s1.answer f r []) := by
  have taken : s.request (kindIs 0x16#8) = some f :=
    State.request_of_ready takes.slotEmpty takes.older (beq_iff_eq.mpr isKind)
  have handled : State.handle (kindIs 0x16#8) checkAbortRule s = s1.answer f r [] := by
    simp only [State.handle, taken, State.freeSlot_of_ready takes.older, rule]
  have live : exec .checkAbort s = .next s.checkAbort := live_of_running _ takes.running
  rw [live]
  simp only [State.checkAbort, taken, handled]

theorem checkAbortRule_of_payload {payload : List Byte} (some : payload ≠ []) (s : State) :
    checkAbortRule payload s = refuse s .format := by
  cases payload with
  | nil => exact absurd rfl some
  | cons b l => rfl

end Sys2Proof.Machine

namespace Sys2Proof

open Machine

/-- Settles O46: the three answers, the abort after the last. -/
theorem checkAbortReleases : Obligations.CheckAbortReleases := by
  intro s f rest takes isKind
  refine ⟨fun payload => ?_, fun payload ready => ?_, fun payload ck u progress isNext => ?_⟩
  · refine (State.checkAbort_of_taken takes isKind (checkAbortRule_of_payload payload _)).trans ?_
    rw [if_neg (by simpa using payload)]
  · have rule : checkAbortRule f.payload (s.withReady rest) = (s.withReady rest, .state, []) := by
      rw [payload]
      exact if_neg (by simp [State.withReady, ready])
    refine (State.checkAbort_of_taken takes isKind rule).trans ?_
    rw [if_pos (by simp [payload]), State.abortCheck_none (by exact ready)]
  · have rule : checkAbortRule f.payload (s.withReady rest) = (s.withReady rest, .done, []) := by
      rw [payload]
      exact if_pos (by simp [State.withReady, progress])
    have same : u.chk.check = some ck := by rw [isNext]; exact progress
    have kept : u.chk = s.chk ∧ u.tick = s.tick ∧ u.dropRange = s.dropRange := by subst isNext; exact ⟨rfl, rfl, rfl⟩
    obtain ⟨chk, tick, dropRange⟩ := kept
    refine (State.checkAbort_of_taken takes isKind rule).trans ?_
    rw [if_pos (by simp [payload]), ← isNext, State.abortCheck_of_some same, chk, tick, dropRange]

/-- Settles O40: the row and the tests of each kind, then the check begun. -/
theorem pulseChecksStart : Obligations.PulseChecksStart := by
  refine ⟨fun s f rest takes isKind => ?_, ?_, ?_⟩
  · have short (row : isCheckShort f = true) (rule : checkStartShortRule f.payload (s.withReady rest) =
        refuse (s.withReady rest) .format) : Refuses .checkStartShort s f rest .format :=
      takes.answers (isRow := isCheckShort) rfl row rule
    refine ⟨fun payload => short (isCheckShort_of_nil isKind payload) (checkStartShortRule_length _ _ (by simp [payload])),
      fun k raw payload => ⟨fun one two three => ?_, fun one length => ?_, fun two length => ?_⟩⟩
    · exact short (isCheckShort_of_cons isKind payload two three) (payload ▸ checkStartShortRule_of_kind one raw _)
    · exact short (isCheckShort_of_cons isKind payload (by simp [one]) (by simp [one]))
        (checkStartShortRule_length _ _ (by simpa [payload] using length))
    · exact takes.answers (isRow := kindHead 0x15#8 2#8) rfl (by rw [kindHead_of_cons isKind payload]; simp [two])
        (checkStartLongRule_length _ _ (by simpa [payload] using length))
  · intro s f rest k p m1 m0 w1 w0 rd tol pol lw usable lis takes isKind payload isWindow isUsable isListener one
    have row : isCheckShort f = true := isCheckShort_of_cons isKind payload (by simp [one]) (by simp [one])
    have answers {t : State} {r : Result} (rule : checkStartShortRule f.payload (s.withReady rest) = (t, r, [])) :
        Answers .checkStartShort s f t r [] := takes.answers (isRow := isCheckShort) rfl row rule
    have tested {r : Result} (test : (s.withReady rest).pulseCheckTest = some r) :
        Refuses .checkStartShort s f rest r := answers (by
      rw [payload, checkStartShortRule, if_pos one, test]
      rfl)
    refine ⟨fun busy => tested (State.pulseCheckTest_of_busy busy), fun ready armed phase =>
      tested (State.pulseCheckTest_of_phase ready armed phase), fun running ready phase => ?_⟩
    have rule : checkStartShortRule f.payload (s.withReady rest) = checkShort p.toNat (maskSet (nat16 m1 m0))
        (nat16 w1 w0) rd.toNat tol.toNat pol.toNat (s.withReady rest) := by
      rw [payload, checkStartShortRule, if_pos one, State.pulseCheckTest_of_free (s := s.withReady rest) ready running phase]
    have isUsable' (c : Chan) : usable c ↔ (s.withReady rest).usable c = true := by rw [isUsable, State.usable_iff]; rfl
    have listens {a : Chan} (isPulser : a.val = p.toNat) (c : Chan) :
        ((s.withReady rest).shortListeners a (maskSet (nat16 m1 m0)))[c] = lis c := by
      rw [Bool.eq_iff_iff, isListener, State.shortListeners_getElem, maskSet_getElem, isUsable', ← isPulser]
      simp [nat16_eq, Fin.ext_iff, and_assoc]
    refine ⟨fun bad => answers (rule.trans (checkShort_of_bad _ _ _ ?_)), fun a policy inv isPulser isPolicy able some
      isInv => ?_⟩
    · rcases bad with h | h | h | h
      · exact .inl h
      · exact .inr (.inl h)
      · exact .inr (.inr (.inl fun c same => by simpa [isUsable'] using h c same))
      · exact .inr (.inr (.inr fun c d same => (listens same d).trans (h d)))
    · have involved : ((s.withReady rest).shortListeners a (maskSet (nat16 m1 m0))).set a.val true = inv := by
        ext i hi
        have here := isInv ⟨i, hi⟩
        have listener := listens isPulser ⟨i, hi⟩
        rw [Vector.getElem_set]
        split
        · next same => simpa [Fin.ext_iff, same] using here.symm
        · next other => simpa [Fin.ext_iff, Ne.symm other] using listener.trans (by simpa [Fin.ext_iff, Ne.symm other] using here.symm)
      have listening : ∃ c : Chan, ((s.withReady rest).shortListeners a (maskSet (nat16 m1 m0)))[c] = true :=
        some.imp fun c listener => (listens isPulser c).trans listener
      refine ⟨_, rfl, answers ?_⟩
      rw [rule, ← isPulser, isPolicy, checkShort_of_good ((isUsable' a).mp able) listening, involved, State.beginCheck_eq,
        doneOr_of_iff (timesClamped_iff (nat16_lt w1 w0) rd.isLt), clampTo_of_le (Nat.le_of_lt_succ (nat16_lt w1 w0)),
        clampTo_of_le (Nat.le_of_lt_succ rd.isLt), clampTo_zero, isWindow]
      rfl
  · intro s f rest w1 w0 rd tol pol opt lw inv pulsers takes isKind payload isWindow isInv isPulsers
    have row : kindHead 0x15#8 2#8 f = true := by rw [kindHead_of_cons isKind payload]; rfl
    have answers {t : State} {r : Result} (rule : checkStartLongRule f.payload (s.withReady rest) = (t, r, [])) :
        Answers .checkStartLong s f t r [] := takes.answers (isRow := kindHead 0x15#8 2#8) rfl row rule
    have tested {r : Result} (test : (s.withReady rest).pulseCheckTest = some r) :
        Refuses .checkStartLong s f rest r := answers (by
      rw [payload, checkStartLongRule, test]
      rfl)
    refine ⟨fun busy => tested (State.pulseCheckTest_of_busy busy), fun ready armed phase =>
      tested (State.pulseCheckTest_of_phase ready armed phase), fun running ready phase => ?_⟩
    have rule : checkStartLongRule f.payload (s.withReady rest) = checkLong (nat16 w1 w0) rd.toNat tol.toNat pol.toNat
        opt.toNat (s.withReady rest) := by
      rw [payload, checkStartLongRule, State.pulseCheckTest_of_free (s := s.withReady rest) ready running phase]
    have usable (c : Chan) : (s.withReady rest).usable c = inv[c] := by
      rw [isInv, Bool.eq_iff_iff, State.usable_iff, decide_eq_true_iff]
      rfl
    have involved : (s.withReady rest).usableSet = inv := by
      ext i hi
      exact ((s.withReady rest).usableSet_getElem ⟨i, hi⟩).trans (usable ⟨i, hi⟩)
    have isPulsers : (s.withReady rest).longPulsers = pulsers := by
      rw [isPulsers]
      refine List.filter_congr fun c _ => ?_
      rw [usable, Bool.decide_and, Bool.decide_eq_true]
      rfl
    refine ⟨fun bad => answers (rule.trans (checkLong_of_bad _ _ _ _ ?_)), fun policy isPolicy some two => ?_⟩
    · rw [isPulsers, involved]
      exact bad
    · refine ⟨_, rfl, answers ?_⟩
      rw [rule, isPolicy, checkLong_of_good _ _ _ _ (by rwa [isPulsers]) (by rw [involved]; exact two), involved, isPulsers,
        State.beginCheck_eq, doneOr_of_iff (timesClamped_iff (nat16_lt w1 w0) rd.isLt),
        clampTo_of_le (Nat.le_of_lt_succ (nat16_lt w1 w0)), clampTo_of_le (Nat.le_of_lt_succ rd.isLt), clampTo_zero,
        isWindow]
      rfl

/-- Settles O41: the row and the tests of a PATTERN check and of PATTERN LOAD, then what they set. -/
theorem patternStartsAndLoads : Obligations.PatternStartsAndLoads := by
  intro s f rest takes
  have start {raw : List Byte} (isKind : f.kind = 0x15#8) (payload : f.payload = 3#8 :: raw) {t : State} {r : Result}
      (rule : checkStartPatternRule f.payload (s.withReady rest) = (t, r, [])) : Answers .checkStartPattern s f t r [] :=
    takes.answers (isRow := kindHead 0x15#8 3#8) rfl (by rw [kindHead_of_cons isKind payload]; rfl) rule
  have load (isKind : f.kind = 0x17#8) {t : State} {r : Result}
      (rule : patternLoadRule f.payload (s.withReady rest) = (t, r, [])) : Answers .patternLoad s f t r [] :=
    takes.answers (isRow := kindIs 0x17#8) rfl (beq_iff_eq.mpr isKind) rule
  refine ⟨fun raw isKind payload length => start isKind payload
      (checkStartPatternRule_length _ _ (by simpa [payload] using length)),
    fun isKind => ⟨fun short => load isKind (patternLoadRule_of_short short _), fun sl a1 a0 k raw payload wrong =>
      load isKind ?_⟩, fun pol sl m1 m0 inv isKind payload isInv => ?_,
    fun sl a1 a0 k raw first piece isKind payload isFirst isRaw count some few => ?_⟩
  · rw [payload]
    exact if_neg fun ⟨length, least, most⟩ => by rcases wrong with h | h | h <;> omega
  · have tested {r : Result} (test : (s.withReady rest).patternCheckTest = Option.some r) :
        Refuses .checkStartPattern s f rest r := start isKind payload (by
      rw [payload, checkStartPatternRule, test]
      rfl)
    refine ⟨fun busy => tested (State.patternCheckTest_of_busy busy), fun ready run =>
      tested (State.patternCheckTest_of_run ready run), fun idle ready => ?_⟩
    have rule : checkStartPatternRule f.payload (s.withReady rest) = checkPattern pol.toNat sl.toNat
        (maskSet (nat16 m1 m0)) (s.withReady rest) := by
      rw [payload, checkStartPatternRule, State.patternCheckTest_of_idle (s := s.withReady rest) ready idle]
    have member (c : Chan) : ((s.withReady rest).patternSet (maskSet (nat16 m1 m0)))[c] = inv[c] := by
      rw [State.patternSet_getElem, maskSet_getElem, isInv, Bool.eq_iff_iff, Bool.and_eq_true, Bool.and_eq_true,
        State.usable_iff, decide_eq_true_iff]
      rfl
    have involved : (s.withReady rest).patternSet (maskSet (nat16 m1 m0)) = inv := by
      ext i hi
      exact member ⟨i, hi⟩
    refine ⟨fun bad => start isKind payload (rule.trans (checkPattern_of_bad ?_)),
      fun n policy isSlot isPolicy loaded some => ⟨_, rfl, start isKind payload ?_⟩⟩
    · simp only [member]
      rcases bad with h | h | h | h
      · exact .inl h
      · exact .inr (.inl h)
      · exact .inr (.inr (.inl h))
      · exact .inr (.inr (.inr h))
    · rw [rule, ← isSlot, isPolicy, checkPattern_of_good (s := s.withReady rest) loaded (by simpa only [member] using some),
        involved, State.beginCheck_eq, if_neg (by simp [State.withReady, idle])]
      have run : (s.withReady rest).ctl.run = .idle := idle
      simp only [Check.start, run]
      rfl
  · have samples : samplesOf raw = piece := isRaw ▸ samplesOf_flatMap piece
    have length : raw.length = 2 * k.toNat := by
      rw [isRaw, count, List.length_flatMap]
      simp [Nat.mul_comm]
    have least : 1 ≤ k.toNat := count ▸ List.length_pos_iff.mpr some
    have rule : patternLoadRule f.payload (s.withReady rest) =
        patternStore sl.toNat first piece (s.withReady rest) := by
      rw [payload, isFirst, ← samples]
      exact if_pos ⟨length, least, count ▸ few⟩
    refine ⟨fun other => load isKind (rule.trans (patternStore_of_run (s := s.withReady rest) other _ _ _)), fun idle busy =>
      load isKind (rule.trans (patternStore_of_busy (s := s.withReady rest) idle busy _ _ _)), fun idle ready => ⟨fun above =>
        load isKind (rule.trans (patternStore_of_slot (s := s.withReady rest) idle ready above _ _)), fun n isSlot => ?_⟩⟩
    have stored := patternStore_of_ready (s := s.withReady rest) idle ready n first piece
    rw [← isSlot, stored] at rule
    refine ⟨fun notZero notEnd => load isKind (rule.trans (if_neg ?_)), fun long => load isKind (rule.trans (if_neg ?_)),
      fun zero => load isKind (rule.trans ?_), fun notZero atEnd fits => load isKind (rule.trans ?_)⟩
    · rintro ⟨zero | atEnd, -⟩
      · exact notZero zero
      · exact notEnd atEnd
    · exact fun ⟨_, fits⟩ => Nat.not_lt.mpr fits long
    · rw [if_pos ⟨.inl zero, by omega⟩, if_pos zero]
      rfl
    · rw [if_pos ⟨.inr atEnd, fits⟩, if_neg notZero]
      rfl

end Sys2Proof
end

section
/-! PROOFS. The completion of a SHORT or LONG check (07): its result, baseline and verdicts, and what it leaves. -/

namespace Sys2Proof.Machine

/-! ### Pairs (R149) -/

/-- The entries stand in the order of their numbers. -/
theorem allPairs_eq : allPairs = List.finRange 256 := by
  have chans : List.range 16 = allChans.map Fin.val := by decide
  have rows : allPairs.map Fin.val = (List.range 16).flatMap fun i => (List.range 16).map fun j => 16 * i + j := by
    rw [chans, allPairs, List.map_flatMap, List.flatMap_map]
    simp only [List.map_map]
    rfl
  refine List.map_injective_iff.mpr Fin.val_injective ?_
  rw [rows, List.map_coe_finRange_eq_range]
  refine List.ext_getElem? fun n => ?_
  by_cases inside : n < 16 * 16
  · rw [flatMap_range_getElem? (fun i j => 16 * i + j) 16 16 n inside, Nat.div_add_mod,
      List.getElem?_range inside]
  · rw [List.getElem?_eq_none, List.getElem?_eq_none]
    · simpa using inside
    · simpa [List.length_flatMap] using inside

/-- Every entry is that of a pair. -/
theorem pairIndex_pair (i : Fin 256) : pairIndex (pairPulser i) (pairListener i) = i :=
  Fin.ext (by simp only [pairIndex, pairPulser, pairListener]; omega)

theorem Vector.ofFn_getElem_fin {α : Type} {n : Nat} (f : Fin n → α) (i : Fin n) : (Vector.ofFn f)[i] = f i := by simp

/-! ### When a check is over (R136, R138) -/

theorem State.checkOver_iff {s : State} {ck : Check} (kind : ck.kind ≠ .pattern) : s.checkOver ck = true ↔
    (∀ c ∈ ck.pulsers, ck.removed[c] = true) ∧
      ∀ q, ck.pulse = some q → q.windowOpen = false ∧ ck.nextPulse ≤ s.tick + 1 := by
  have pulse : (match ck.pulse with
      | none => true
      | some p => !p.windowOpen && decide (ck.nextPulse ≤ s.tick + 1)) = true ↔
        ∀ q, ck.pulse = some q → q.windowOpen = false ∧ ck.nextPulse ≤ s.tick + 1 := by
    cases ck.pulse <;> simp
  rw [← ck.remaining_eq_nil, ← pulse, ← List.isEmpty_iff, ← Bool.and_eq_true]
  unfold State.checkOver
  cases same : ck.kind with
  | pattern => exact absurd same kind
  | short => rfl
  | long => rfl

theorem State.checkComplete_of_over {s : State} {ck : Check} (progress : s.chk.check = some ck) (free : ¬s.ChecksHeld)
    (done : s.checkOver ck = true) : s.checkComplete =
      State.notify (State.keepResult s ck ((s.releaseCheck ck).endSpan ck))
        (.checkResult ck.kind ck.startTick s.tick ck.startRun (s.completeDetail ck)) := by
  simp only [State.checkComplete, State.movingCheck_of_not_held free, progress, done, if_true]

theorem State.checkComplete_of_open {s : State} {ck : Check} (progress : s.chk.check = some ck)
    (open' : s.ChecksHeld ∨ s.checkOver ck = false) : s.checkComplete = s := by
  by_cases held : s.ChecksHeld
  · exact State.checkComplete_of_held held
  · simp [State.checkComplete, State.movingCheck_of_not_held held, progress, open'.resolve_left held]

/-! ### Baseline and marks (R142, R143) -/

theorem CheckUnit.fills_iff (k : CheckUnit) (ck : Check) :
    k.fills ck = true ↔ ck.kind = .long ∧ (k.baselineHeld = false ∨ ck.rebase = true) := by
  simp [CheckUnit.fills]

theorem baselineOf_eq (m : Meas) : baselineOf m = match m with
    | .heard _ code => some code
    | _ => none := by cases m <;> rfl

theorem CheckUnit.nextBaseline_of_fills {k : CheckUnit} {ck : Check} (fills : k.fills ck = true) (i : Fin 256) :
    (k.nextBaseline ck)[i] = baselineOf ck.pairs[i] := by
  simp [CheckUnit.nextBaseline, fills]

theorem CheckUnit.nextBaseline_of_keeps {k : CheckUnit} {ck : Check} (keeps : k.fills ck = false) :
    k.nextBaseline ck = k.baseline := by simp [CheckUnit.nextBaseline, keeps]

theorem isDegraded_iff (tolerance : Nat) (base : Option Nat) (m : Meas) : isDegraded tolerance base m = true ↔
    (m = .silent ∧ base ≠ none) ∨ ∃ d code b, m = .heard d code ∧ base = some b ∧ tolerance < b - code := by
  cases m with
  | notMeasured => simp [isDegraded]
  | silent => simp [isDegraded, Option.isSome_iff_ne_none]
  | heard d code => cases base <;> simp [isDegraded]

/-! ### Pair velocities (R140) -/

theorem Locator.position_of_geom {l : Locator} {g : Geometry} (loaded : l.geom = some g) (c : Chan) :
    l.position c = g.pos[c] := by simp only [Locator.position, loaded]

theorem Locator.pairVel_of_heard {l : Locator} {g : Geometry} {p q : Chan} {a b : Pos} (loaded : l.geom = some g)
    (first : g.pos[p] = some a) (second : g.pos[q] = some b) (d code : Nat) : l.pairVel p q (.heard d code) =
      if g.dist a b = 0 then .absent
      else if 500 ≤ (g.dist a b * 5000 + d / 2) / d ∧ (g.dist a b * 5000 + d / 2) / d ≤ 9999 then
        .valid ((g.dist a b * 5000 + d / 2) / d)
      else .invalid ((g.dist a b * 5000 + d / 2) / d) := by
  have first' : l.position p = some a := (Locator.position_of_geom loaded p).trans first
  have second' : l.position q = some b := (Locator.position_of_geom loaded q).trans second
  simp only [Locator.pairVel, loaded, first', second']

theorem Locator.pairVel_of_absent {l : Locator} {p q : Chan} {m : Meas}
    (none : m = .silent ∨ m = .notMeasured ∨ l.placed p = false ∨ l.placed q = false) : l.pairVel p q m = .absent := by
  cases m with
  | notMeasured => rfl
  | silent => rfl
  | heard d code =>
    simp only [Locator.pairVel]
    split
    · next g a b _ first second => simp [Locator.placed, first, second] at none
    · rfl

theorem estimateOf_eq (vels : List Nat) :
    estimateOf vels = (vels.insertionSort (· ≤ ·))[(vels.length - 1) / 2]? := rfl

/-! ### Verdicts (R143) -/

section
variable (s : State) (ck : Check) (c : Chan)

theorem Check.mem_heardPairs (i : Fin 256) :
    i ∈ ck.heardPairs c ↔ ∃ p, i = pairIndex p c ∧ ck.pairs[pairIndex p c] ≠ .notMeasured := by
  simp only [Check.heardPairs, List.mem_filter, List.mem_map, mem_allChans, true_and, decide_eq_true_eq]
  constructor
  · rintro ⟨⟨p, rfl⟩, heard⟩
    exact ⟨p, rfl, heard⟩
  · rintro ⟨p, rfl, heard⟩
    exact ⟨⟨p, rfl⟩, heard⟩

theorem Check.heardPairs_isEmpty :
    (ck.heardPairs c).isEmpty = true ↔ ∀ p, ck.pairs[pairIndex p c] = .notMeasured := by
  rw [List.isEmpty_iff, List.eq_nil_iff_forall_not_mem]
  simp only [Check.mem_heardPairs, not_exists, not_and, not_not]
  exact ⟨fun none p => none _ p rfl, fun none _ p _ => none p⟩

/-- The entries of a channel that have a baseline (R143). -/
def State.judgedPairs : List (Fin 256) :=
  (ck.heardPairs c).filter fun i => ((s.chk.nextBaseline ck)[i]).isSome

theorem State.judgedPairs_isEmpty : (s.judgedPairs ck c).isEmpty = true ↔
    ∀ p, ck.pairs[pairIndex p c] ≠ .notMeasured → (s.chk.nextBaseline ck)[pairIndex p c] = none := by
  rw [List.isEmpty_iff, State.judgedPairs, List.filter_eq_nil_iff]
  constructor
  · exact fun none p heard => by simpa using none _ ((ck.mem_heardPairs c _).mpr ⟨p, rfl, heard⟩)
  · rintro none i mem
    obtain ⟨p, rfl, heard⟩ := (ck.mem_heardPairs c i).mp mem
    simp [none p heard]

/-- The entry is DEGRADED (R143). -/
def State.degradedAt (i : Fin 256) : Bool := isDegraded ck.tolerance (s.chk.nextBaseline ck)[i] ck.pairs[i]

variable {s ck c} in
theorem Check.heard_of_some (present : ck.removed[c] = false) (some : ∃ p, ck.pairs[pairIndex p c] ≠ .notMeasured) :
    ¬(ck.removed[c] = true ∨ (ck.heardPairs c).isEmpty = true) := by
  rw [Check.heardPairs_isEmpty]
  rintro (removed | none)
  · simp [removed] at present
  · obtain ⟨p, heard⟩ := some
    exact heard (none p)

variable {s ck c} in
theorem State.judged_of_some (some : ∃ p, ck.pairs[pairIndex p c] ≠ .notMeasured ∧
    (s.chk.nextBaseline ck)[pairIndex p c] ≠ none) : ¬(s.judgedPairs ck c).isEmpty = true := by
  rw [State.judgedPairs_isEmpty]
  obtain ⟨p, heard, known⟩ := some
  exact fun none => known (none p heard)

theorem State.judgedPairs_all : (s.judgedPairs ck c).all (s.degradedAt ck) = true ↔
    ∀ p, ck.pairs[pairIndex p c] ≠ .notMeasured → (s.chk.nextBaseline ck)[pairIndex p c] ≠ none →
      s.degradedAt ck (pairIndex p c) = true := by
  simp only [State.judgedPairs, List.all_eq_true, List.mem_filter, Check.mem_heardPairs, Option.isSome_iff_ne_none]
  constructor
  · exact fun all p heard base => all _ ⟨⟨p, rfl, heard⟩, base⟩
  · rintro all i ⟨⟨p, rfl, heard⟩, base⟩
    exact all p heard base

theorem State.nextVerdict_eq : s.nextVerdict ck c =
    if ck.removed[c] = true ∨ (ck.heardPairs c).isEmpty = true then s.chk.verdicts[c]
    else if (s.judgedPairs ck c).isEmpty = true then .unknown
    else if (s.judgedPairs ck c).all (s.degradedAt ck) = true then .poor else .good := by
  unfold State.nextVerdict
  simp only [Bool.or_eq_true]
  rfl

end

/-! ### What the completion leaves (R141 to R143, R147) -/

/-- The change flags of the verdicts (R143). -/
def State.verdictChanges (s : State) (ck : Check) : Vector Bool 16 :=
  Vector.ofFn fun c => decide (s.nextVerdict ck c ≠ s.chk.verdicts[c])

theorem State.verdictChanges_getElem (s : State) (ck : Check) (c : Chan) :
    (s.verdictChanges ck)[c] = decide (s.nextVerdict ck c ≠ s.chk.verdicts[c]) := by
  simp [State.verdictChanges]

/-- The notice of a changed verdict (R143). -/
def State.couplingNotice (s : State) (ck : Check) (c : Chan) : Notice :=
  .faultCoupling s.tick c s.chk.verdicts[c] (s.nextVerdict ck c)

theorem State.changeVerdict_eq (s0 : State) (ck : Check) (s : State) (c : Chan) : State.changeVerdict s0 ck s c =
    if (s0.verdictChanges ck)[c] = true then
      (s.modCh c fun x => { x with faultChanged := true }).notify (s0.couplingNotice ck c)
    else s := by
  rw [State.verdictChanges_getElem]
  unfold State.changeVerdict
  split
  · next same => rw [if_neg (by simpa using same)]
  · next other =>
    rw [if_pos (by simpa using other)]
    rfl

/-- Every changed verdict is flagged, and the COUPLING notices follow in channel order (R143). -/
theorem State.foldl_changeVerdict (s0 : State) (ck : Check) {cs : List Chan} (nodup : cs.Nodup) (s : State) :
    cs.foldl (State.changeVerdict s0 ck) s =
      (cs.filter fun c => (s0.verdictChanges ck)[c]).foldl (fun u c => u.notify (s0.couplingNotice ck c))
        (s.mapCh fun c x => { x with
          faultChanged := x.faultChanged || (decide (c ∈ cs) && (s0.verdictChanges ck)[c]) }) := by
  induction cs generalizing s with
  | nil =>
    refine State.eq_of_ch (fun c => ?_) rfl
    simp
  | cons c cs ih =>
    obtain ⟨fresh, nodup⟩ := List.nodup_cons.mp nodup
    rw [List.foldl_cons, State.changeVerdict_eq]
    by_cases changed : (s0.verdictChanges ck)[c] = true
    · have flagged : (s.modCh c fun x => { x with faultChanged := true }).mapCh (fun d x => { x with
          faultChanged := x.faultChanged || (decide (d ∈ cs) && (s0.verdictChanges ck)[d]) }) =
          s.mapCh fun d x => { x with
            faultChanged := x.faultChanged || (decide (d ∈ c :: cs) && (s0.verdictChanges ck)[d]) } := by
        refine State.eq_of_ch (fun d => ?_) (by simp only [State.mapCh, State.modCh, State.setCh])
        rw [State.mapCh_ch, State.mapCh_ch]
        by_cases same : d = c
        · subst same
          simp [State.modCh_ch_same, changed]
        · simp [State.modCh_ch_other _ _ same, same]
      have pushed (n : Notice) (u : State) (g : Chan → Channel → Channel) :
          (u.notify n).mapCh g = (u.mapCh g).notify n := rfl
      rw [if_pos changed, List.filter_cons_of_pos (by exact changed), List.foldl_cons, ← flagged, ← pushed]
      exact ih nodup _
    · have kept : (s.mapCh fun d x => { x with
            faultChanged := x.faultChanged || (decide (d ∈ c :: cs) && (s0.verdictChanges ck)[d]) }) =
          s.mapCh fun d x => { x with
            faultChanged := x.faultChanged || (decide (d ∈ cs) && (s0.verdictChanges ck)[d]) } := by
        refine congrArg (State.mapCh s) (funext fun d => funext fun x => ?_)
        by_cases same : d = c
        · subst same
          simp [fresh, changed]
        · simp [same]
      rw [if_neg changed, List.filter_cons_of_neg (by exact changed), kept]
      exact ih nodup s

theorem State.completeDetail_of_pairs {s : State} {ck : Check} (kind : ck.kind ≠ .pattern) :
    s.completeDetail ck = s.pairsDetail ck := by
  unfold State.completeDetail
  cases same : ck.kind with
  | pattern => exact absurd same kind
  | short => rfl
  | long => rfl

/-- The figures of the CHECK RESULT (R149). -/
theorem State.pairsDetail_eq (s : State) (ck : Check) : s.pairsDetail ck = .pairs ck.pulses
    ((List.finRange 256).filter fun i => decide (ck.pairs[i] ≠ .notMeasured)).length
    ((List.finRange 256).filter fun i => decide (ck.pairs[i] ≠ .notMeasured ∧ ck.pairs[i] ≠ .silent)).length
    ((List.finRange 256).filter fun i => ((s.pairResults ck)[i]).degraded).length
    (validVels (s.pairResults ck)).length
    (if ck.kind = .long then estimateOf (validVels (s.pairResults ck)) else none)
    (if ck.kind = .long then some (s.adoption ck (validVels (s.pairResults ck)).length) else none)
    (s.chk.baseAction ck) (Vector.ofFn fun c => s.nextVerdict ck c) (s.verdictChanges ck) := by
  have heard : (fun i : Fin 256 => (baselineOf ck.pairs[i]).isSome) =
      fun i : Fin 256 => decide (ck.pairs[i] ≠ .notMeasured ∧ ck.pairs[i] ≠ .silent) := by
    funext i
    cases ck.pairs[i] <;> rfl
  unfold State.pairsDetail
  dsimp only
  rw [allPairs_eq, heard]
  rfl

/-- The state after the release, the result and the flags, as one change (R141 to R143, R147). -/
theorem State.keepResult_eq {s : State} {ck : Check} (kind : ck.kind ≠ .pattern) :
    State.keepResult s ck ((s.releaseCheck ck).endSpan ck) =
      (allChans.filter fun c => (s.verdictChanges ck)[c]).foldl (fun u c => u.notify (s.couplingNotice ck c))
        (State.mapCh
          { s with
            chk := { s.chk with
              check := none
              latest := some (s.pairResults ck)
              verdicts := Vector.ofFn fun c => s.nextVerdict ck c
              baseline := s.chk.nextBaseline ck
              baselineHeld := s.chk.baselineHeld || s.chk.fills ck }
            loc := { s.loc with v := s.nextVelocity ck (validVels (s.pairResults ck)) }
            dropRange := if ck.startRun = .armed then closeSpan s.tick s.dropRange else s.dropRange }
          fun c x => { x with
            state := if ck.involved[c] = true ∧ x.state = .testing then .quiet else x.state
            faultChanged := x.faultChanged || (s.verdictChanges ck)[c] }) := by
  have folded : State.keepResult s ck ((s.releaseCheck ck).endSpan ck) =
      allChans.foldl (State.changeVerdict s ck) (State.keepPairs s ck ((s.releaseCheck ck).endSpan ck)) := by
    unfold State.keepResult
    cases same : ck.kind with
    | pattern => exact absurd same kind
    | short => rfl
    | long => rfl
  rw [folded, State.foldl_changeVerdict s ck allChans_nodup, State.releaseCheck_endSpan]
  generalize (if ck.startRun = .armed then closeSpan s.tick s.dropRange else s.dropRange) = span
  refine congrArg (List.foldl _ · _) (State.eq_of_ch (fun c => ?_) (by simp only [State.mapCh, State.keepPairs]))
  rw [State.mapCh_ch, State.mapCh_ch]
  have kept (u : State) : (State.keepPairs s ck u).ch c = u.ch c := rfl
  rw [kept, State.mapCh_ch]
  simp only [mem_allChans, decide_true, Bool.true_and]
  by_cases testing : ck.involved[c] = true ∧ (s.ch c).state = .testing
  · rw [if_pos (by exact testing), if_pos (by exact testing)]
    rfl
  · rw [if_neg (by exact testing), if_neg (by exact testing)]
    rfl

end Sys2Proof.Machine

namespace Sys2Proof

open Machine

/-- Settles O44: when a check is over, and its result, baseline, verdicts and velocity each by their rules. -/
theorem checkCompletes : Obligations.CheckCompletes := by
  intro s ck running progress kind
  have live : exec .checkComplete s = .next s.checkComplete := live_of_running _ running
  rw [live]
  refine ⟨fun open' => ?_, fun fills base deg free gone past isFills isBase isDeg => ?_⟩
  · rw [State.checkComplete_of_open progress]
    rw [← Bool.not_eq_true, State.checkOver_iff kind]
    rcases open' with held | ⟨c, mem, present⟩ | ⟨q, pulse, busy⟩
    · exact .inl held
    · exact .inr fun ⟨gone, _⟩ => by simp [gone c mem] at present
    · refine .inr fun ⟨_, past⟩ => ?_
      obtain ⟨closed, due⟩ := past q pulse
      rcases busy with h | h
      · simp [closed] at h
      · omega
  · have fillsIff : fills ↔ s.chk.fills ck = true := by rw [isFills, CheckUnit.fills_iff]
    have baseIs : s.chk.nextBaseline ck = base := by
      ext1 i hi
      by_cases h : fills
      · exact ((s.chk.nextBaseline_of_fills (fillsIff.mp h) ⟨i, hi⟩).trans (baselineOf_eq _)).trans
          ((isBase ⟨i, hi⟩).1 h).symm
      · rw [CheckUnit.nextBaseline_of_keeps (by simpa [fillsIff] using h)]
        exact ((isBase ⟨i, hi⟩).2 h).symm
    have degIff (i : Fin 256) : s.degradedAt ck i = true ↔ deg i := by
      rw [State.degradedAt, isDegraded_iff, baseIs, isDeg]
    have res (i : Fin 256) : (s.pairResults ck)[i] =
        ⟨ck.pairs[i], s.loc.pairVel (pairPulser i) (pairListener i) ck.pairs[i], s.degradedAt ck i⟩ :=
      Vector.ofFn_getElem_fin _ i
    have verdict (c : Chan) : (Vector.ofFn fun c => s.nextVerdict ck c)[c] = s.nextVerdict ck c :=
      Vector.ofFn_getElem_fin _ c
    refine ⟨s.pairResults ck, Vector.ofFn fun c => s.nextVerdict ck c, s.verdictChanges ck,
      validVels (s.pairResults ck), estimateOf (validVels (s.pairResults ck)),
      s.adoption ck (validVels (s.pairResults ck)).length, s.chk.baseAction ck, s.chk.baselineHeld || s.chk.fills ck,
      fun i => ?_, fun p l i isPair => ⟨fun d code g a b heard loaded first second => ?_, fun none => ?_⟩,
      fun c heard isHeard => ⟨fun none => ?_, fun present some => ⟨fun unjudged => ?_, fun judged all => ?_,
        fun sound => ?_⟩⟩, fun c => ?_, ?_, estimateOf_eq _, ?_, fun fills => ?_, fun keeps => ?_, ?_, ?_⟩
    · have degraded : ((s.pairResults ck)[i]).degraded = s.degradedAt ck i := congrArg PairResult.degraded (res i)
      exact ⟨congrArg PairResult.meas (res i), by rw [degraded, degIff]⟩
    · subst isPair
      have vel : ((s.pairResults ck)[pairIndex p l]).vel = s.loc.pairVel p l ck.pairs[pairIndex p l] := by
        rw [res, pairPulser_pairIndex, pairListener_pairIndex]
      rw [vel, heard, Locator.pairVel_of_heard loaded first second]
      exact ⟨fun zero => if_pos zero, fun apart v isV => by rw [if_neg apart, isV]⟩
    · subst isPair
      have vel : ((s.pairResults ck)[pairIndex p l]).vel = s.loc.pairVel p l ck.pairs[pairIndex p l] := by
        rw [res, pairPulser_pairIndex, pairListener_pairIndex]
      rw [vel, Locator.pairVel_of_absent none]
    · rw [verdict, State.nextVerdict_eq, if_pos]
      exact none.imp_right fun none => (ck.heardPairs_isEmpty c).mpr fun p => by simpa [isHeard] using none p
    · rw [verdict, State.nextVerdict_eq,
        if_neg (Check.heard_of_some present (some.imp fun p => (isHeard p).mp)), if_pos]
      exact (s.judgedPairs_isEmpty ck c).mpr fun p h => by rw [baseIs]; exact unjudged p ((isHeard p).mpr h)
    · have known : ∃ p, ck.pairs[pairIndex p c] ≠ .notMeasured ∧ (s.chk.nextBaseline ck)[pairIndex p c] ≠ none :=
        judged.imp fun p h => ⟨(isHeard p).mp h.1, by rw [baseIs]; exact h.2⟩
      rw [verdict, State.nextVerdict_eq, if_neg (Check.heard_of_some present (some.imp fun p => (isHeard p).mp)),
        if_neg (State.judged_of_some known), if_pos]
      exact (s.judgedPairs_all ck c).mpr fun p h known =>
        (degIff _).mpr (all p ((isHeard p).mpr h) (by rwa [← baseIs]))
    · obtain ⟨p, isOne, known, notDeg⟩ := sound
      rw [verdict, State.nextVerdict_eq, if_neg (Check.heard_of_some present (some.imp fun p => (isHeard p).mp)),
        if_neg (State.judged_of_some ⟨p, (isHeard p).mp isOne, by rwa [baseIs]⟩), if_neg]
      rw [State.judgedPairs_all]
      exact fun all => notDeg ((degIff _).mp (all p ((isHeard p).mp isOne) (by rwa [baseIs])))
    · rw [State.verdictChanges_getElem, verdict]
    · rw [validVels, allPairs_eq]
      exact List.filterMap_congr fun i _ => by cases ((s.pairResults ck)[i]).vel <;> rfl
    · rw [State.adoption]
      cases ck.adopt <;> rfl
    · rw [CheckUnit.baseAction, if_pos (fillsIff.mp fills)]
    · rw [CheckUnit.baseAction, if_neg (by rwa [← fillsIff])]
    · rw [Bool.or_eq_true, fillsIff]
    · rw [State.checkComplete_of_over progress free ((State.checkOver_iff kind).mpr ⟨gone, past⟩),
        State.keepResult_eq kind, State.completeDetail_of_pairs kind, State.pairsDetail_eq, baseIs]
      simp only [verdict]
      rfl

end Sys2Proof
end

section
/-! PROOFS. PATTERN checks (07, 7.6): the outcomes, the replay at a TICK, the completion. -/

namespace Sys2Proof.Machine

/-! ### Completion (R146, R147) -/

section
variable {s : State} {ck : Check} (kind : ck.kind = .pattern)
include kind

theorem State.checkOver_pattern_iff :
    s.checkOver ck = true ↔ ∀ c : Chan, ck.involved[c] = true → (ck.replay[c]).outcome ≠ none := by
  simp only [State.checkOver, kind, List.all_eq_true, mem_allChans, true_imp_iff, Bool.or_eq_true,
    Bool.not_eq_true', Option.isSome_iff_ne_none]
  refine forall_congr' fun c => ?_
  rw [← Bool.not_eq_true, Decidable.imp_iff_not_or]

/-- A completed PATTERN check leaves nothing but its notice. -/
theorem State.checkComplete_of_pattern (progress : s.chk.check = some ck) (free : ¬s.ChecksHeld)
    (decided : ∀ c : Chan, ck.involved[c] = true → (ck.replay[c]).outcome ≠ none) : s.checkComplete = State.notify
      (State.mapCh
        { s with
          chk := { s.chk with check := none }
          dropRange := if ck.startRun = .armed then closeSpan s.tick s.dropRange else s.dropRange }
        fun c x => if ck.involved[c] = true ∧ x.state = .testing then { x with state := .quiet } else x)
      (.checkResult .pattern ck.startTick s.tick ck.startRun (.pattern ck.slot ck.outcomes)) := by
  have kept (u : State) : State.keepResult s ck u = u := by simp only [State.keepResult, kind]
  have detail : s.completeDetail ck = .pattern ck.slot ck.outcomes := by simp only [State.completeDetail, kind]
  rw [State.checkComplete_of_over progress free ((State.checkOver_pattern_iff kind).mpr decided), kept, detail, kind,
    State.releaseCheck_endSpan]

end

/-! ### Outcomes (R146) -/

/-- The check with a decided outcome. -/
def State.withOutcome (s : State) (ck : Check) (c : Chan) (o : PatOutcome) : State :=
  { s with chk := { s.chk with
    check := some { ck with replay := ck.replay.set c { ck.replay[c] with outcome := some o } } } }

section
variable {s : State} {ck : Check} {c : Chan}

theorem Check.replays_iff : ck.replays c = true ↔
    ck.involved[c] = true ∧ ck.removed[c] = false ∧ (ck.replay[c]).outcome = none := by
  rw [Check.replays, Bool.and_eq_true, ck.owns_iff, Option.isNone_iff_eq_none, and_assoc]

theorem State.patternOutcome_eq (progress : s.chk.check = some ck) (free : ¬s.ChecksHeld) (kind : ck.kind = .pattern)
    (runs : ck.running = true) (replays : ck.replays c = true) :
    s.patternOutcome c = match s.patternDue ck c with
      | none => s
      | some o => s.withOutcome ck c o := by
  unfold State.patternOutcome
  rw [State.movingCheck_of_not_held free, progress]
  exact if_pos (by simp [runs, kind, replays])

/-- A decided outcome stands, and a held check does. -/
theorem State.patternOutcome_of_decided (progress : s.chk.check = some ck)
    (decided : s.ChecksHeld ∨ (ck.replay[c]).outcome ≠ none) : s.patternOutcome c = s := by
  by_cases held : s.ChecksHeld
  · exact State.patternOutcome_of_held held c
  · have done : ck.replays c = false := by
      rw [← Bool.not_eq_true, Check.replays_iff]
      exact fun ⟨_, _, open'⟩ => decided.resolve_left held open'
    simp [State.patternOutcome, State.movingCheck_of_not_held held, progress, done]

theorem State.patternDue_of_silent (silent : (ck.replay[c]).hit = none) : s.patternDue ck c =
    if (s.chk.patterns[ck.slot]).length ≤ s.tick - ck.entered then some .silent else none := by
  simp only [State.patternDue, silent]

/-- The end of a replayed hit is judged as that of a hit whose sample has been taken (R35, R36). -/
theorem State.patternDue_of_hit {h : Hit} (hit : (ck.replay[c]).hit = some h) : s.patternDue ck c =
    if h.lastCount + (s.ch c).cfg.hdt ≤ s.tick ∧ h.lastCount + (s.ch c).cfg.hdt ≤ h.arrival + (s.ch c).cfg.maxDur then
      some (hitOutcome h (s.ch c).cfg ck.entered false)
    else if h.arrival + (s.ch c).cfg.maxDur ≤ s.tick ∧ h.arrival + (s.ch c).cfg.maxDur < h.lastCount + (s.ch c).cfg.hdt then
      some (hitOutcome h (s.ch c).cfg ck.entered true)
    else none := by
  have reached (d : Nat) : Reached s.tick true d ↔ d ≤ s.tick := by
    simp only [Reached, and_true]
    omega
  unfold State.patternDue
  simp only [hit, Hit.normalDue_iff, Hit.forcedDue_iff, reached, Hit.normalAt, Hit.forcedAt]

theorem hitOutcome_eq (h : Hit) (cfg : ChanCfg) (entered : Nat) (long : Bool) : hitOutcome h cfg entered long =
    .hit (h.arrival - entered - 1) (min 65535 (h.peakTick - h.arrival)) (h.lastCount - h.arrival)
      (min 65535 h.counts) (min 4294967295 (h.energySum / 65536)) (min 127 (ampCode h.peak + cfg.refOffset)) h.clipped
      long := by
  unfold hitOutcome Hit.amplitude
  rw [clampTo_zero]
  rfl

/-- Whether a lane has a frame in this sample period is nothing to the outcomes. -/
theorem State.patternOutcome_allSeen (s : State) (c : Chan) :
    s.allSeen.patternOutcome c = (s.patternOutcome c).allSeen := by
  have moving : s.allSeen.movingCheck = s.movingCheck := rfl
  have due (ck : Check) : s.allSeen.patternDue ck c = s.patternDue ck c := by
    simp only [State.patternDue, State.allSeen, State.mapCh_ch]
    rfl
  unfold State.patternOutcome
  rw [moving]
  cases s.movingCheck with
  | none => rfl
  | some ck =>
    simp only [due]
    split
    · cases s.patternDue ck c with
      | none => rfl
      | some o => rfl
    · rfl

end

/-! ### The replay at a TICK (R136, R146) -/

theorem State.decidePatterns_of_fixed {s : State} (fixed : ∀ c, s.patternOutcome c = s) : s.decidePatterns = s :=
  List.foldl_fixed' fixed allChans

/-- The replays after the sample of the tick t (R146). -/
def State.fedReplays (s : State) (ck : Check) (t : Nat) : Vector Replay 16 :=
  Vector.ofFn fun c =>
    if ck.replays c then (ck.replay[c]).sample (s.ch c) t (s.chk.slotSample ck.slot (t - ck.entered - 1))
    else ck.replay[c]

theorem State.fedReplays_of_open {s : State} {ck : Check} {c : Chan} (replays : ck.replays c = true) (t : Nat) :
    (s.fedReplays ck t)[c] =
      (ck.replay[c]).sample (s.ch c) t (s.chk.slotSample ck.slot (t - ck.entered - 1)) :=
  (Vector.ofFn_getElem_fin _ c).trans (if_pos replays)

theorem State.fedReplays_of_done {s : State} {ck : Check} {c : Chan} (done : ck.replays c = false) (t : Nat) :
    (s.fedReplays ck t)[c] = ck.replay[c] :=
  (Vector.ofFn_getElem_fin _ c).trans (if_neg (by simp [done]))

theorem State.feedPattern_chk {s : State} {ck : Check} (progress : s.chk.check = some ck) (free : ¬s.ChecksHeld)
    (kind : ck.kind = .pattern) (runs : ck.running = true) :
    s.feedPattern.chk = { s.chk with check := some { ck with replay := s.fedReplays ck s.tick } } := by
  have fed : s.feedPattern =
      { s with chk := { s.chk with check := some { ck with replay := s.fedReplays ck s.tick } } } := by
    unfold State.feedPattern
    rw [State.movingCheck_of_not_held free, progress]
    exact if_pos (by simp [runs, kind])
  rw [fed]

theorem nextTick_of_lt {t : Nat} (below : t < 281474976710655) : nextTick t = t + 1 := by
  unfold nextTick
  exact if_pos below

/-- Only the threshold and the settings of the channel are read. -/
theorem Replay.sample_congr (r : Replay) {x y : Channel} (thr : x.thr = y.thr) (cfg : x.cfg = y.cfg) (t : Nat)
    (v : Sample) : r.sample x t v = r.sample y t v := by
  simp only [Replay.sample, thr, cfg]

theorem State.fedReplays_congr {s u : State} (chk : u.chk = s.chk) (thr : ∀ c, (u.ch c).thr = (s.ch c).thr)
    (cfg : ∀ c, (u.ch c).cfg = (s.ch c).cfg) (ck : Check) (t : Nat) : u.fedReplays ck t = s.fedReplays ck t := by
  simp only [State.fedReplays, chk]
  refine congrArg Vector.ofFn (funext fun c => ?_)
  rw [Replay.sample_congr _ (thr c) (cfg c)]

theorem State.advance_ch (s : State) (c : Chan) : s.advance.ch c = { s.ch c with frameSeen := false } := by
  simp [State.advance, State.ch]

theorem State.allSeen_ch (s : State) (c : Chan) : s.allSeen.ch c = { s.ch c with frameSeen := true } := by
  rw [State.allSeen, State.mapCh_ch]

/-- A TICK with no step and no outcome due feeds the replay (R146). -/
theorem State.tickStep_feeds {s : State} {ck : Check} (progress : s.chk.check = some ck) (kind : ck.kind = .pattern)
    (runs : ck.running = true) (below : s.tick < 281474976710655)
    (free : s.tick + 1 < 281474976710655 ∨ s.ctl.run = .armed) (nothing : s.NothingToClose)
    (fixed : ∀ c, s.patternOutcome c = s) :
    s.tickStep.chk = { s.chk with check := some { ck with replay := s.fedReplays ck (s.tick + 1) } } := by
  have still (c : Chan) : s.allSeen.patternOutcome c = s.allSeen := by rw [State.patternOutcome_allSeen, fixed]
  have run : s.tickStep = s.allSeen.advance.feedPattern := by
    unfold State.tickStep
    rw [if_pos (by exact below), State.closeSample_of_nothing nothing, State.decidePatterns_of_fixed still]
  have tick : s.allSeen.advance.tick = s.tick + 1 := nextTick_of_lt below
  have chk : s.allSeen.advance.chk = s.chk := by simp only [State.advance, State.allSeen, State.mapCh]
  have free' : ¬s.allSeen.advance.ChecksHeld := by
    rintro ⟨high, run⟩
    rw [tick] at high
    exact free.elim (fun low => by omega) (fun armed => run armed)
  have fed : s.allSeen.advance.fedReplays ck (s.tick + 1) = s.fedReplays ck (s.tick + 1) :=
    State.fedReplays_congr chk (fun c => by rw [State.advance_ch, State.allSeen_ch])
      (fun c => by rw [State.advance_ch, State.allSeen_ch]) ck _
  rw [run, State.feedPattern_chk (by rw [chk, progress]) free' kind runs, tick, fed, chk]

section
variable {r : Replay} {x : Channel} {v : Sample} (t : Nat)

theorem Replay.sample_of_nothing (silent : r.hit = none) (noCount : isCount x.thr r.prev (magnitude v) = false) :
    r.sample x t v = { r with prev := magnitude v } := by
  simp only [Replay.sample, silent, noCount]
  rfl

theorem Replay.sample_of_first (silent : r.hit = none) (count : isCount x.thr r.prev (magnitude v) = true) :
    r.sample x t v = { r with
      prev := magnitude v
      hit := some (Hit.opened t (magnitude v) (isClipped v) ⟨0, .ramp, 0, false, false⟩) } := by
  simp only [Replay.sample, silent, count, if_true]

theorem Replay.sample_of_hit {h : Hit} (hit : r.hit = some h) : r.sample x t v = { r with
    prev := magnitude v
    hit := some (h.sample x.cfg.pdt t (magnitude v) (isCount x.thr r.prev (magnitude v)) (isClipped v)) } := by
  simp only [Replay.sample, hit]

end

end Sys2Proof.Machine

namespace Sys2Proof

open Machine

/-- Settles O45: completion, each outcome, and the sample a TICK feeds. -/
theorem patternReplaysToOutcomes : Obligations.PatternReplaysToOutcomes := by
  refine ⟨fun s ck running progress kind => ?_, fun s ck running progress kind runs below free nothing fixed => ?_⟩
  · have complete : exec .checkComplete s = .next s.checkComplete := live_of_running _ running
    have outcome (c : Chan) : exec (.patternOutcome c) s = .next (s.patternOutcome c) :=
      live_of_running (fun s => s.patternOutcome c) running
    refine ⟨fun free decided => ⟨ck.outcomes, fun c => Vector.ofFn_getElem_fin _ c, ?_⟩, fun open' => ?_,
      fun c free runs involved present w isW undecided put isPut => ?_, fun c decided => ?_⟩
    · rw [complete, State.checkComplete_of_pattern kind progress free decided]
    · rw [complete, State.checkComplete_of_open progress]
      refine open'.imp_right fun ⟨c, involved, undecided⟩ => ?_
      rw [← Bool.not_eq_true, State.checkOver_pattern_iff kind]
      exact fun decided => decided c involved undecided
    · subst isW
      have due := State.patternOutcome_eq progress free kind runs
        (Check.replays_iff.mpr ⟨involved, present, undecided⟩)
      have decides {o : PatOutcome} (is : s.patternDue ck c = some o) :
          exec (.patternOutcome c) s = .next (put o) := by
        rw [outcome, due, is, isPut]
        rfl
      have stays (is : s.patternDue ck c = none) : exec (.patternOutcome c) s = .next s := by
        rw [outcome, due, is]
      refine ⟨fun silent => ⟨fun past => decides ?_, fun short => stays ?_⟩,
        fun h g o hit isCfg isOut => ⟨fun past normal => decides ?_, fun past forced => decides ?_,
          fun normal forced => stays ?_⟩⟩
      · rw [State.patternDue_of_silent silent, if_pos past]
      · rw [State.patternDue_of_silent silent, if_neg (by omega)]
      all_goals
        subst isCfg
        rw [State.patternDue_of_hit hit]
      · rw [if_pos ⟨by omega, normal⟩, hitOutcome_eq, isOut]
      · rw [if_neg (by omega), if_pos ⟨past, forced⟩, hitOutcome_eq, isOut]
      · rw [if_neg (by omega), if_neg (by omega)]
    · rw [outcome, State.patternOutcome_of_decided progress decided]
  · have outcome (c : Chan) : s.patternOutcome c = s :=
      Host.Outcome.next.inj ((live_of_running (fun s => s.patternOutcome c) running).symm.trans (fixed c))
    refine ⟨s.tickStep, s.fedReplays ck (s.tick + 1), live_of_running _ running,
      State.tickStep_feeds progress kind runs below free nothing outcome, fun c w isW => ⟨fun done => ?_,
        fun involved present undecided v mag clip fixed count isV isMag isClip isCount => ?_⟩⟩
    · rw [isW]
      refine State.fedReplays_of_done ?_ _
      rw [← Bool.not_eq_true, Check.replays_iff]
      rintro ⟨involved, present, undecided⟩
      rw [← isW] at undecided
      simp [involved, present, undecided] at done
    · have sampled : (s.fedReplays ck (s.tick + 1))[c] = w.sample (s.ch c) (s.tick + 1) v := by
        have index : s.tick + 1 - ck.entered - 1 = s.tick - ck.entered := by omega
        rw [isW] at undecided ⊢
        rw [State.fedReplays_of_open (Check.replays_iff.mpr ⟨involved, present, undecided⟩), isV, index]
        rfl
      have magIs : magnitude v = mag := isMag.symm
      have clipIs : isClipped v = clip := (isClipped_eq v).trans isClip.symm
      have counts : Machine.isCount (s.ch c).thr w.prev mag = true ↔ count := by rw [isCount_iff, isCount]
      rw [sampled]
      refine ⟨fun silent no => ?_, fun silent yes => ?_, fun h hit isFixed => ⟨fun yes => ?_, fun no => ?_⟩⟩
      · rw [Replay.sample_of_nothing _ silent (by rw [magIs, ← Bool.not_eq_true, counts]; exact no), magIs]
      · refine ⟨Hit.opened (s.tick + 1) mag clip ⟨0, .ramp, 0, false, false⟩,
          (Replay.sample_of_first _ silent (by rw [magIs]; exact counts.mpr yes)).trans ?_,
          rfl, rfl, rfl, rfl, rfl, rfl, rfl, rfl, rfl⟩
        rw [magIs, clipIs]
      all_goals
        subst isFixed
        rw [Replay.sample_of_hit _ hit, magIs, clipIs, Hit.sample_eq]
      · rw [if_pos (counts.mpr yes), if_pos (counts.mpr yes), if_pos (counts.mpr yes)]
        rfl
      · have no' := mt counts.mp no
        rw [if_neg no', if_neg no', if_neg no']
        rfl

end Sys2Proof
end

section
/-! PROOFS. Run control (08): STOP and the drain, the armings, the run reset and the full reset. -/

namespace Sys2Proof.Machine

/-! ### The drain (R160) -/

theorem State.drained_iff (s : State) : s.drained = true ↔ (∀ c h, (s.ch c).state ≠ .hit h) ∧ s.offers = [] ∧
    s.hitList = [] ∧ s.assoc.openEvent = none ∧ s.loc.queue = [] ∧ s.loc.busy = none := by
  have noHit : s.anyHit = false ↔ ∀ c h, (s.ch c).state ≠ .hit h := by
    rw [← Bool.not_eq_true, State.anyHit_iff]
    simp only [not_exists, ne_eq]
  simp only [State.drained, Bool.and_eq_true, Bool.not_eq_true', noHit, List.isEmpty_iff, Option.isNone_iff_eq_none,
    and_assoc]

theorem State.drainComplete_of_drained {s : State} (freezing : s.ctl.run = .freezing) (drained : s.drained = true) :
    s.drainComplete = (s.setRun .frozen).tellRun .drain .freezing s.drainDetail := if_pos ⟨freezing, drained⟩

theorem State.drainComplete_of_other {s : State} (other : s.ctl.run ≠ .freezing ∨ s.drained ≠ true) :
    s.drainComplete = s := if_neg fun ⟨freezing, drained⟩ => other.elim (· freezing) (· drained)

/-! ### The armings (R152 to R154) -/

theorem State.armTest_of_busy {s : State} (busy : s.ctl.run = .freezing ∨ s.chk.check ≠ none) :
    s.armTest = some .busy := by
  unfold State.armTest
  split
  · rfl
  · next other => exact if_pos (Option.isSome_iff_ne_none.mpr (busy.resolve_left other))

theorem State.armTest_of_armed {s : State} (ready : s.chk.check = none) (armed : s.ctl.run = .armed) :
    s.armTest = some .state := by
  simp [State.armTest, ready, armed]

theorem armRule_of_length {payload : List Byte} (bad : payload.length ≠ 1) (s : State) :
    armRule payload s = refuse s .format := by
  match payload with
  | [] => rfl
  | [_] => exact absurd rfl bad
  | _ :: _ :: _ => rfl

theorem armRule_of_test {s : State} {r : Result} (test : s.armTest = some r) (m : Byte) :
    armRule [m] s = refuse s r := by
  simp only [armRule, test]

theorem armResumeRule_of_test {s : State} {r : Result} (test : s.armTest = some r) (payload : List Byte) :
    armResumeRule payload s = refuse s r := by
  simp only [armResumeRule, test]

theorem armRule_of_unlisted {s : State} (tested : s.armTest = none) {m : Byte} (other : m ≠ 0#8) :
    armRule [m] s = refuse s .range := by
  simp only [armRule, tested]
  exact if_neg other

theorem armResumeRule_of_idle {s : State} (tested : s.armTest = none) (idle : s.ctl.run = .idle) (payload : List Byte) :
    armResumeRule payload s = refuse s .state := by
  simp only [armResumeRule, tested]
  exact if_pos idle

theorem isArmFresh_of_other {f : Frame} (isArm : f.kind = 0x0F#8) (other : f.payload ≠ [1#8]) :
    isArmFresh f = true := by
  simp [isArmFresh, kindIs, kindOnly, isArm, other]

/-- A test that refuses an arming refuses it in both rows. -/
theorem State.Takes.refuses_arm {s : State} {f : Frame} {rest : List Frame} (takes : s.Takes f rest)
    (isArm : f.kind = 0x0F#8) {m : Byte} (payload : f.payload = [m]) {r : Result}
    (test : (s.withReady rest).armTest = some r) :
    Refuses (if m = 1#8 then .armResume else .arm) s f rest r := by
  split
  · next resume =>
    exact takes.answers (isRow := kindOnly 0x0F#8 1#8) rfl (by simp [kindOnly, isArm, payload, resume])
      (armResumeRule_of_test test _)
  · next fresh =>
    refine takes.answers (isRow := isArmFresh) rfl (isArmFresh_of_other isArm (by simpa [payload] using fresh)) ?_
    rw [payload]
    exact armRule_of_test test m

/-- A channel where the run starts again (R43). -/
theorem Channel.restart_eq (x : Channel) : x.restart = { x with
    state := if x.cfg.enable then (if x.lane = .good then .quiet else .fault) else .off
    pendingThr := none, settleDue := false
    ended := 0, entered := 0, dropped := 0, lone := 0, faults := 0 } := by
  have home : (if x.cfg.enable then
      match x.lane with
      | .good => .quiet
      | .lost => .fault
    else ChState.off) = if x.cfg.enable then (if x.lane = .good then .quiet else .fault) else .off := by
    cases x.lane <;> rfl
  rw [← home]
  rfl

theorem State.armFresh_eq (x : State) : x.armFresh = State.notify
    { x with
      tick := 0
      press := { x.press with
        history := [], pFilt := 0, pMax := 0, pPrev := 0, pRef := 0, stable := 0, phase := .ramp, holdIndex := 0
        spanOpen := false, spanCount := 0, spanMarked := false, onsetRatio := none, awaiting := true }
      chans := Vector.ofFn fun c => { x.chans[c] with
        state := if (x.ch c).cfg.enable then (if (x.ch c).lane = .good then .quiet else .fault) else .off
        pendingThr := none, settleDue := false
        ended := 0, entered := 0, dropped := 0, lone := 0, faults := 0 }
      hitList := [], dropRange := none, offers := []
      assoc := { x.assoc with openEvent := none, lockoutUntil := 0, position := 0, eventNo := 1, lastEvent := 0 }
      loc := { x.loc with queue := [], busy := none }
      map := { x.map with
        cells := List.replicate x.map.cells.length ⟨0, 0, 0, 0, 0, 0, .clear⟩
        zones := Vector.replicate 16 ⟨0, 0, 0⟩, ack := Vector.replicate 4 false, latch := false }
      ctl := { x.ctl with
        run := .armed, freeze := none, clipTicks := Vector.replicate 16 none, numbered := 0, located := 0 }
      rep := { x.rep with
        data := [], level := x.rep.ceiling, snapshot := ⟨Vector.replicate 16 ⟨0, 0, 0⟩, 0, 0⟩ } }
    (.run .arm .armed x.ctl.run 0 1 .plain) := by
  unfold State.armFresh State.restart
  simp only [Channel.restart_eq]
  rfl

/-- The resumed run, told (R154). -/
def State.resumedRun (x : State) : State := x.resume.tellRun .armResume x.ctl.run .plain

theorem State.resumedRun_eq {x : State} (frozen : x.ctl.run = .frozen) : x.resumedRun = State.notify
    { x with
      press := { x.press with history := [], awaiting := true }
      chans := Vector.ofFn fun c => { x.chans[c] with ended := 0, entered := 0, dropped := 0, lone := 0 }
      hitList := [], dropRange := none, offers := []
      assoc := { x.assoc with openEvent := none, lockoutUntil := 0, position := x.tick }
      loc := { x.loc with queue := [], busy := none }
      ctl := { x.ctl with
        run := .armed, freeze := none, clipTicks := Vector.replicate 16 none, numbered := 0, located := 0 }
      rep := { x.rep with snapshot := ⟨Vector.replicate 16 ⟨0, 0, 0⟩, 0, 0⟩ } }
    (.run .armResume .armed .frozen x.tick x.assoc.eventNo .plain) := by
  unfold State.resumedRun
  rw [frozen]
  rfl

theorem State.armResume_of_below {x : State} (below : x.tick ≠ 281474976710655) : x.armResume = x.resumedRun :=
  if_neg (by exact below)

theorem State.armResume_of_limit {x : State} (limit : x.tick = 281474976710655) :
    x.armResume = x.resumedRun.frozen .timeLimit .timeLimit .plain := by
  rw [← State.enterFreezing_eq]
  exact if_pos (by exact limit)

end Sys2Proof.Machine

namespace Sys2Proof

open Machine

/-- Settles O48: STOP by its rule, the drain by its one condition. -/
theorem stopFreezesAndTheDrainEnds : Obligations.StopFreezesAndTheDrainEnds := by
  refine ⟨fun s f rest takes isKind => ?_, fun s sum running isSum => ?_⟩
  · have row : exec .stop s = live (State.handle (kindIs 0x10#8) stopRule) s := rfl
    have ofRow : kindIs 0x10#8 f = true := beq_iff_eq.mpr isKind
    refine ⟨fun given => takes.answers row ofRow (noPayload_of_ne_nil _ given _), fun empty other => ?_,
      fun empty armed => ?_⟩
    · refine takes.answers row ofRow ?_
      rw [empty, stopRule, noPayload_nil]
      exact if_neg other
    · refine takes.answers row ofRow ?_
      rw [empty, stopRule, noPayload_nil, ← State.enterFreezing_eq]
      exact if_pos armed
  · have drain : exec .drainComplete s = .next s.drainComplete := live_of_running _ running
    rw [drain]
    refine ⟨fun freezing noHit noOffer noEntry closed noQueue free => ?_, fun other => ?_⟩
    · rw [State.drainComplete_of_drained freezing
        (s.drained_iff.mpr ⟨noHit, noOffer, noEntry, closed, noQueue, free⟩), isSum, isSum, isSum, isSum]
      rfl
    · rw [State.drainComplete_of_other]
      refine other.imp_right fun left drained => ?_
      obtain ⟨noHit, noOffer, noEntry, closed, noQueue, free⟩ := s.drained_iff.mp drained
      rcases left with ⟨c, h, hit⟩ | h | h | h | h | h
      · exact noHit c h hit
      · exact h noOffer
      · exact h noEntry
      · exact h closed
      · exact h noQueue
      · exact h free

/-- Settles O49: the tests of both rows, and the two armings. -/
theorem armByItsTests : Obligations.ArmByItsTests := by
  intro s f rest takes isArm
  refine ⟨fun bad => ?_, fun m i x payload isInstr isNext => ?_⟩
  · refine takes.answers (isRow := isArmFresh) rfl (isArmFresh_of_other isArm fun e => ?_) (armRule_of_length bad _)
    simp [e] at bad
  · subst isInstr isNext
    refine ⟨fun busy => takes.refuses_arm isArm payload (State.armTest_of_busy (by exact busy)),
      fun ready armed => takes.refuses_arm isArm payload (State.armTest_of_armed (by exact ready) (by exact armed)),
      fun ready free => ?_⟩
    have tested : (s.withReady rest).armTest = none := State.armTest_of_configurable (by exact free) ready
    have fresh {t : State} {r : Result} (mode : m ≠ 1#8) (rule : armRule [m] (s.withReady rest) = (t, r, [])) :
        Answers (if m = 1#8 then .armResume else .arm) s f t r [] := by
      rw [if_neg mode]
      refine takes.answers (isRow := isArmFresh) rfl (isArmFresh_of_other isArm (by simpa [payload] using mode)) ?_
      rw [payload]
      exact rule
    have resumed {t : State} {r : Result} (mode : m = 1#8)
        (rule : armResumeRule f.payload (s.withReady rest) = (t, r, [])) :
        Answers (if m = 1#8 then .armResume else .arm) s f t r [] := by
      rw [if_pos mode]
      exact takes.answers (isRow := kindOnly 0x0F#8 1#8) rfl (by simp [kindOnly, isArm, payload, mode]) rule
    refine ⟨fun notFresh notResume => fresh notResume (armRule_of_unlisted tested notFresh),
      fun mode idle => resumed mode (armResumeRule_of_idle tested idle _), fun mode => ?_, fun mode frozen => ?_⟩
    · refine ⟨_, rfl, ?_⟩
      have armed := fresh (by rw [mode]; decide) (mode ▸ armRule_fresh tested)
      rw [State.armFresh_eq] at armed
      exact armed
    · have armed := resumed mode (armResumeRule_of_frozen tested frozen _)
      refine ⟨(s.withReady rest).resumedRun, State.resumedRun_eq frozen, fun below => ?_, fun limit => ?_⟩
      · rw [State.armResume_of_below (by exact below)] at armed
        exact armed
      · rw [State.armResume_of_limit (by exact limit)] at armed
        exact armed

end Sys2Proof
end

section
/-! PROOFS. The run reset and the full reset (08, 8.6). -/

namespace Sys2Proof.Machine

/-! ### What a run reset takes first (R49, R55, R61, log 34) -/

section
variable (s : State)

/-- How many hits a freeze has still to cut. -/
def State.hitsToCut : Nat :=
  if s.ctl.run = .freezing then (allChans.filter fun c => (s.ch c).holdsAt.isSome).length else 0

/-- Every hit that is cut adds its offer. -/
theorem State.foldl_cutOffers_length (cs : List Chan) (l : List HitRec) :
    (cs.foldl (fun l c => match (s.ch c).state with
      | .hit h => insertOffer (s.cutRecord c h) l
      | _ => l) l).length = l.length + (cs.filter fun c => (s.ch c).holdsAt.isSome).length := by
  induction cs generalizing l with
  | nil => rfl
  | cons c cs ih =>
    rw [List.foldl_cons, ih]
    by_cases hit : ∃ h, (s.ch c).state = .hit h
    · obtain ⟨h, hit⟩ := hit
      have held : (s.ch c).holdsAt.isSome = true := by rw [Channel.holdsAt_of_hit hit]; rfl
      rw [List.filter_cons_of_pos (by exact held), List.length_cons]
      simp only [hit, insertOffer_length]
      omega
    · have free : (s.ch c).holdsAt = none := Channel.holdsAt_of_no_hit fun h same => hit ⟨h, same⟩
      rw [List.filter_cons_of_neg (by simp [free])]
      congr 2
      split
      · next h same => exact absurd ⟨h, same⟩ hit
      · rfl

theorem State.lastCuts_offers_length : s.lastCuts.offers.length = s.offers.length + s.hitsToCut := by
  rw [State.lastCuts_eq, State.hitsToCut]
  split
  · have all : allChans.filter (fun _ => true) = allChans := List.filter_eq_self.mpr fun _ _ => rfl
    simp only [State.cutWhere, State.mapCh_offers, all]
    exact s.foldl_cutOffers_length allChans s.offers
  · rfl

theorem State.lastCuts_hitList : s.lastCuts.hitList = s.hitList := by
  rw [State.lastCuts_eq]
  split <;> rfl

theorem State.lastCuts_dropFlag : s.lastCuts.dropFlag = s.dropFlag := by
  rw [State.lastCuts_eq]
  split <;> rfl

/-- The DROP flag is set where the list has no place for what waits (R49, R61). -/
theorem State.taken_dropFlag : s.lastCuts.takeOffers.dropFlag = (s.dropFlag ||
    decide (s.offers.length + s.hitsToCut ≠ 0 ∧ 512 < s.hitList.length + (s.offers.length + s.hitsToCut))) := by
  have full : (!s.lastCuts.droppable.isEmpty) =
      decide (s.offers.length + s.hitsToCut ≠ 0 ∧ 512 < s.hitList.length + (s.offers.length + s.hitsToCut)) := by
    rw [Bool.eq_iff_iff, Bool.not_eq_true', decide_eq_true_iff, ← Bool.not_eq_true, List.isEmpty_iff,
      State.droppable, List.drop_eq_nil_iff, State.lastCuts_offers_length, State.lastCuts_hitList]
    omega
  have kept : s.lastCuts.admitted.dropFlag = (s.lastCuts.dropFlag || !s.lastCuts.droppable.isEmpty) := rfl
  rw [State.takeOffers_eq, kept, full, State.lastCuts_dropFlag]

theorem State.lastCuts_ch_of_hit {h : Hit} {c : Chan} (freezing : s.ctl.run = .freezing)
    (hit : (s.ch c).state = .hit h) : s.lastCuts.ch c = { (s.ch c).withPending with state := .quiet } := by
  rw [State.lastCuts_eq, if_pos freezing, State.cutWhere, State.mapCh_ch]
  change (match (s.ch c).state with
    | .hit _ => if true then { (s.ch c).withPending with state := .quiet } else s.ch c
    | _ => s.ch c) = _
  simp only [hit, if_true]

theorem State.lastCuts_ch_of_other {c : Chan} (other : s.ctl.run ≠ .freezing ∨ ∀ h, (s.ch c).state ≠ .hit h) :
    s.lastCuts.ch c = s.ch c := by
  rw [State.lastCuts_eq]
  by_cases freezing : s.ctl.run = .freezing
  · rw [if_pos freezing, State.cutWhere, State.mapCh_ch]
    split
    · next h same => exact absurd same (other.resolve_left (· freezing) h)
    · rfl
  · rw [if_neg freezing]

/-- The counters and the state of a channel do not outlast its restart (R43). -/
theorem Channel.restart_counters (x : Channel) (a b d : Nat) :
    Channel.restart { x with ended := a, entered := b, dropped := d } = x.restart := rfl

theorem Channel.restart_quiet (x : Channel) : Channel.restart { x with state := .quiet } = x.restart := rfl

theorem Channel.withPending_enable (x : Channel) : x.withPending.cfg.enable = x.cfg.enable := by
  rw [← Channel.applyPending_eq, Channel.applyPending_enable]

theorem Channel.withPending_lane (x : Channel) : x.withPending.lane = x.lane := rfl

/-- Only the pending threshold of a hit that is cut outlasts the restart of its channel (R25, R43). -/
theorem State.taken_restart (c : Chan) : (s.lastCuts.takeOffers.ch c).restart =
    Channel.restart (if s.ctl.run = .freezing ∧ (s.ch c).holdsAt.isSome then (s.ch c).withPending else s.ch c) := by
  have cut : (s.lastCuts.ch c).restart =
      Channel.restart (if s.ctl.run = .freezing ∧ (s.ch c).holdsAt.isSome then (s.ch c).withPending else s.ch c) := by
    by_cases hit : s.ctl.run = .freezing ∧ ∃ h, (s.ch c).state = .hit h
    · obtain ⟨freezing, h, hit⟩ := hit
      have held : (s.ch c).holdsAt.isSome = true := by rw [Channel.holdsAt_of_hit hit]; rfl
      rw [if_pos ⟨freezing, held⟩, s.lastCuts_ch_of_hit freezing hit, Channel.restart_quiet]
    · have other : s.ctl.run ≠ .freezing ∨ ∀ h, (s.ch c).state ≠ .hit h := by
        simpa only [not_and_or, not_exists] using hit
      rw [s.lastCuts_ch_of_other other, if_neg]
      rintro ⟨freezing, held⟩
      rw [Channel.holdsAt_of_no_hit (other.resolve_left (· freezing))] at held
      exact absurd held (by decide)
  rw [State.takeOffers_eq, State.admitted, State.mapCh_ch, Channel.restart_counters]
  exact cut

/-- The run reset, with what it takes first. -/
theorem State.resetRun_eq : s.resetRun = State.notify
    { s with
      tick := 0
      press := { s.press with
        history := [], pFilt := 0, pMax := 0, pPrev := 0, pRef := 0, stable := 0, phase := .ramp, holdIndex := 0
        spanOpen := false, spanCount := 0, spanMarked := false, onsetRatio := none, awaiting := true }
      chans := Vector.ofFn fun c =>
        { (if s.ctl.run = .freezing ∧ (s.ch c).holdsAt.isSome then (s.ch c).withPending else s.ch c) with
          state := if (s.ch c).cfg.enable then (if (s.ch c).lane = .good then .quiet else .fault) else .off
          pendingThr := none, settleDue := false, ended := 0, entered := 0, dropped := 0, lone := 0, faults := 0 }
      hitList := [], dropRange := none, offers := []
      dropFlag := s.dropFlag ||
        decide (s.offers.length + s.hitsToCut ≠ 0 ∧ 512 < s.hitList.length + (s.offers.length + s.hitsToCut))
      assoc := { s.assoc with openEvent := none, lockoutUntil := 0, position := 0, eventNo := 1, lastEvent := 0 }
      loc := { s.loc with queue := [], busy := none }
      map := { s.map with
        cells := List.replicate s.map.cells.length ⟨0, 0, 0, 0, 0, 0, .clear⟩
        zones := Vector.replicate 16 ⟨0, 0, 0⟩, ack := Vector.replicate 4 false, latch := false }
      chk := { s.chk with check := none }
      ctl := { s.ctl with
        run := .idle, freeze := none, clipTicks := Vector.replicate 16 none, numbered := 0, located := 0 }
      rep := { s.rep with
        data := [], level := s.rep.ceiling, snapshot := ⟨Vector.replicate 16 ⟨0, 0, 0⟩, 0, 0⟩ } }
    (.run .resetRun .idle s.ctl.run 0 1 .plain) := by
  have home (c : Chan) : (s.lastCuts.takeOffers.ch c).restart =
      { (if s.ctl.run = .freezing ∧ (s.ch c).holdsAt.isSome then (s.ch c).withPending else s.ch c) with
        state := if (s.ch c).cfg.enable then (if (s.ch c).lane = .good then .quiet else .fault) else .off
        pendingThr := none, settleDue := false, ended := 0, entered := 0, dropped := 0, lone := 0, faults := 0 } := by
    rw [State.taken_restart, Channel.restart_eq]
    split
    · rw [Channel.withPending_enable, Channel.withPending_lane]
      rfl
    · rfl
  have chans : (Vector.ofFn fun c => Channel.restart s.lastCuts.takeOffers.chans[c]) = Vector.ofFn fun c =>
      { (if s.ctl.run = .freezing ∧ (s.ch c).holdsAt.isSome then (s.ch c).withPending else s.ch c) with
        state := if (s.ch c).cfg.enable then (if (s.ch c).lane = .good then .quiet else .fault) else .off
        pendingThr := none, settleDue := false, ended := 0, entered := 0, dropped := 0, lone := 0, faults := 0 } :=
    congrArg Vector.ofFn (funext home)
  unfold State.resetRun State.restart
  rw [chans, ← State.taken_dropFlag]
  simp only [State.takeOffers_pending, State.takeOffers_inReset, State.takeOffers_press, State.takeOffers_assoc,
    State.takeOffers_loc, State.takeOffers_map, State.takeOffers_ctl, State.takeOffers_link, State.takeOffers_rep,
    State.lastCuts_pending, State.lastCuts_inReset, State.lastCuts_press, State.lastCuts_assoc, State.lastCuts_loc,
    State.lastCuts_map, State.lastCuts_ctl, State.lastCuts_link, State.lastCuts_rep]
  rfl

end

end Sys2Proof.Machine

namespace Sys2Proof

open Machine

/-- Settles O51: the run reset as one change, the full reset by its definition. -/
theorem resetsTaken : Obligations.ResetsTaken := by
  refine ⟨fun s f rest takes isKind => ?_, fun s => ⟨rfl, fun baud => ⟨fun running => ?_, fun held => ?_⟩⟩⟩
  · have row : exec .resetRun s = live (State.handle (kindIs 0x03#8) resetRunRule) s := rfl
    have ofRow : kindIs 0x03#8 f = true := beq_iff_eq.mpr isKind
    refine ⟨fun given => takes.answers row ofRow (noPayload_of_ne_nil _ given _), fun empty n isN => ⟨_, rfl, ?_⟩⟩
    have count : n = (s.withReady rest).offers.length + (s.withReady rest).hitsToCut := isN
    refine takes.answers row ofRow ?_
    rw [empty, resetRunRule, noPayload_nil, State.resetRun_eq, ← count]
    rfl
  · exact congrArg Host.Outcome.next (if_neg (by simp [running]))
  · exact congrArg Host.Outcome.next (if_pos held)

end Sys2Proof
end

section
/-! PROOFS. What stands within a sample period (01, 08, log 42): the run state, the tick, and a check that is held; the
steps of the channels, the associator, the locator and the check unit leave it as it is. -/

namespace Sys2Proof.Machine

/-! ### What stands -/

/-- A check that began outside ARMED stands in the hold of the tick counter (R2, R136). -/
structure State.Held (s : State) (ck : Check) : Prop where
  held : s.ChecksHeld
  progress : s.chk.check = some ck
  began : ck.startRun ≠ .armed

/-- From s to t the run state stands, and a check that is held does. -/
structure State.Stays (s t : State) : Prop where
  run : t.ctl.run = s.ctl.run
  tick : s.tick ≤ t.tick
  held : ∀ ck, s.Held ck → t.chk.check = some ck

theorem State.Stays.refl (s : State) : s.Stays s := ⟨rfl, Nat.le_refl _, fun _ h => h.progress⟩

theorem State.Stays.trans {s t u : State} (h : s.Stays t) (k : t.Stays u) : s.Stays u where
  run := k.run.trans h.run
  tick := Nat.le_trans h.tick k.tick
  held ck held :=
    k.held ck ⟨⟨Nat.le_trans held.held.1 h.tick, h.run ▸ held.held.2⟩, h.held ck held, held.began⟩

theorem State.Stays.foldl {β : Type} {f : State → β → State} (h : ∀ (s : State) b, s.Stays (f s b)) (l : List β)
    (s : State) : s.Stays (l.foldl f s) :=
  foldl_holds (State.Stays s) f (fun t b k => k.trans (h t b)) l s (.refl s)

/-- Where a step of the check unit is not taken in the hold, a held check stands. -/
theorem State.Stays.of_check {s t : State} (run : t.ctl.run = s.ctl.run) (tick : s.tick ≤ t.tick)
    (held : s.ChecksHeld → t.chk.check = s.chk.check) : s.Stays t :=
  ⟨run, tick, fun _ h => (held h.held).trans h.progress⟩

theorem State.Stays.of_frames {s t : State} (run : t.ctl.run = s.ctl.run) (tick : t.tick = s.tick)
    (chk : t.chk = s.chk) : s.Stays t :=
  .of_check run (Nat.le_of_eq tick.symm) fun _ => by rw [chk]

/-- Only the channels, the list with its offers, the check unit and the queues of the report unit have changed, and a
held check has not. -/
structure State.SamePeriod (s t : State) : Prop where
  inReset : t.inReset = s.inReset
  tick : t.tick = s.tick
  press : t.press = s.press
  loc : t.loc = s.loc
  link : t.link = s.link
  run : t.ctl.run = s.ctl.run
  timer : t.rep.timer = s.rep.timer
  period : t.rep.period = s.rep.period
  held : s.ChecksHeld → t.chk = s.chk

theorem State.SamePeriod.refl (s : State) : s.SamePeriod s := ⟨rfl, rfl, rfl, rfl, rfl, rfl, rfl, rfl, fun _ => rfl⟩

theorem State.SamePeriod.checksHeld {s t : State} (h : s.SamePeriod t) : t.ChecksHeld ↔ s.ChecksHeld := by
  rw [State.ChecksHeld, State.ChecksHeld, h.tick, h.run]

theorem State.SamePeriod.trans {s t u : State} (h : s.SamePeriod t) (k : t.SamePeriod u) : s.SamePeriod u where
  inReset := k.inReset.trans h.inReset
  tick := k.tick.trans h.tick
  press := k.press.trans h.press
  loc := k.loc.trans h.loc
  link := k.link.trans h.link
  run := k.run.trans h.run
  timer := k.timer.trans h.timer
  period := k.period.trans h.period
  held held := (k.held (h.checksHeld.mpr held)).trans (h.held held)

theorem State.SamePeriod.foldl {β : Type} {f : State → β → State} (h : ∀ (s : State) b, s.SamePeriod (f s b))
    (l : List β) (s : State) : s.SamePeriod (l.foldl f s) :=
  foldl_holds (State.SamePeriod s) f (fun t b k => k.trans (h t b)) l s (.refl s)

theorem State.SamePeriod.stays {s t : State} (h : s.SamePeriod t) : s.Stays t :=
  .of_check h.run (Nat.le_of_eq h.tick.symm) fun held => by rw [h.held held]

/-! ### The shared operations -/

theorem State.modCh_samePeriod (s : State) (c : Chan) (f : Channel → Channel) : s.SamePeriod (s.modCh c f) :=
  ⟨rfl, rfl, rfl, rfl, rfl, rfl, rfl, rfl, fun _ => rfl⟩

theorem State.toQuiet_samePeriod (s : State) (c : Chan) : s.SamePeriod (s.toQuiet c) := s.modCh_samePeriod c _

theorem State.allSeen_samePeriod (s : State) : s.SamePeriod s.allSeen := by constructor <;> simp [State.allSeen]

theorem Report.sendData_timer (r : Report) : r.sendData.timer = r.timer ∧ r.sendData.period = r.period := by
  unfold Report.sendData Report.stepUp
  split <;> exact ⟨rfl, rfl⟩

/-- A choice of the transmitter leaves the summary timer and its period. -/
theorem Report.choose_timer (run : RunState) (tick : Nat) (r : Report) :
    (r.choose run tick).timer = r.timer ∧ (r.choose run tick).period = r.period := by
  unfold Report.choose
  (repeat' split) <;> first | exact ⟨rfl, rfl⟩ | exact r.sendData_timer

theorem Report.notify_timer (run : RunState) (tick : Nat) (n : Notice) (r : Report) :
    (r.notify run tick n).timer = r.timer ∧ (r.notify run tick n).period = r.period := by
  unfold Report.notify
  split
  · exact Report.choose_timer ..
  · exact ⟨rfl, rfl⟩

theorem State.notify_samePeriod (s : State) (n : Notice) : s.SamePeriod (s.notify n) where
  inReset := rfl
  tick := rfl
  press := rfl
  loc := rfl
  link := rfl
  run := rfl
  timer := (Report.notify_timer ..).1
  period := (Report.notify_timer ..).2
  held _ := rfl

theorem State.offerInTurn_samePeriod (s : State) (r : HitRec) : s.SamePeriod (s.offerInTurn r) := by
  constructor <;> simp

theorem State.cutHit_samePeriod (s : State) (c : Chan) (h : Hit) : s.SamePeriod (s.cutHit c h) := by
  constructor <;> simp

theorem State.cutCh_samePeriod (s : State) (c : Chan) : s.SamePeriod (s.cutCh c) := by constructor <;> simp

theorem State.takeOffers_samePeriod (s : State) : s.SamePeriod s.takeOffers := by constructor <;> simp

theorem State.lastCuts_samePeriod (s : State) : s.SamePeriod s.lastCuts := by constructor <;> simp

theorem State.finishCuts_samePeriod (s : State) : s.SamePeriod s.finishCuts := by
  unfold State.finishCuts
  split
  · exact s.takeOffers_samePeriod
  · exact .refl s

theorem State.removeFromCheck_samePeriod (s : State) (c : Chan) : s.SamePeriod (s.removeFromCheck c) where
  inReset := by simp
  tick := by simp
  press := by simp
  loc := by simp
  link := by simp
  run := by simp
  timer := by simp
  period := by simp
  held held := by rw [State.removeFromCheck_of_held held]

theorem State.enterFault_samePeriod (s : State) (c : Chan) : s.SamePeriod (s.enterFault c) :=
  (s.modCh_samePeriod c _).trans (State.notify_samePeriod _ _)

/-! ### The steps due at a channel's samples (02) -/

theorem State.noiseBlockEnd_samePeriod (c : Chan) (s : State) : s.SamePeriod (s.noiseBlockEnd c) := by
  unfold State.noiseBlockEnd
  split
  · exact s.modCh_samePeriod c _
  · exact .refl s

theorem State.settlingComplete_samePeriod (c : Chan) (s : State) : s.SamePeriod (s.settlingComplete c) := by
  unfold State.settlingComplete
  split
  · exact (s.modCh_samePeriod c _).trans (State.toQuiet_samePeriod _ c)
  · exact .refl s

theorem State.endHit_samePeriod (c : Chan) (h : Hit) (d : Nat) (long : Bool) (s : State) :
    s.SamePeriod (State.endHit c h d long s) := by
  unfold State.endHit
  dsimp only
  split
  · exact (s.offerInTurn_samePeriod _).trans (State.toQuiet_samePeriod _ c)
  · exact (s.offerInTurn_samePeriod _).trans (State.modCh_samePeriod _ c _)

theorem State.hitEnd_samePeriod (c : Chan) (s : State) : s.SamePeriod (s.hitEnd c) := by
  unfold State.hitEnd
  split
  · split
    · exact s.endHit_samePeriod c _ _ _
    · exact .refl s
  · exact .refl s

theorem State.forcedEnd_samePeriod (c : Chan) (s : State) : s.SamePeriod (s.forcedEnd c) := by
  unfold State.forcedEnd
  split
  · split
    · exact s.endHit_samePeriod c _ _ _
    · exact .refl s
  · exact .refl s

theorem State.lockoutEnd_samePeriod (c : Chan) (s : State) : s.SamePeriod (s.lockoutEnd c) := by
  unfold State.lockoutEnd
  split
  · split
    · exact s.toQuiet_samePeriod c
    · exact .refl s
  · exact .refl s

theorem State.loseLane_samePeriod (c : Chan) (s : State) : s.SamePeriod (s.loseLane c) := by
  have lost := s.modCh_samePeriod c fun x => { x with lane := .lost, goodRun := 0 }
  unfold State.loseLane
  split
  · exact lost
  · exact lost.trans ((State.cutHit_samePeriod _ c _).trans
      ((State.removeFromCheck_samePeriod _ c).trans (State.enterFault_samePeriod _ c)))
  · exact lost.trans ((State.removeFromCheck_samePeriod _ c).trans (State.enterFault_samePeriod _ c))

theorem State.laneLost_samePeriod (c : Chan) (s : State) : s.SamePeriod (s.laneLost c) := by
  unfold State.laneLost
  (repeat' split) <;> first | exact s.loseLane_samePeriod c | exact .refl s

theorem State.laneRecovered_samePeriod (c : Chan) (s : State) : s.SamePeriod (s.laneRecovered c) := by
  have found := s.modCh_samePeriod c fun x => { x with lane := .good, goodRun := 0 }
  unfold State.laneRecovered
  split
  · dsimp only
    split
    · exact found.trans ((State.modCh_samePeriod _ c _).trans (State.notify_samePeriod _ _))
    · exact found
  · exact .refl s

theorem State.catchUp_samePeriod (c : Chan) (s : State) : s.SamePeriod (s.catchUp c) :=
  (s.noiseBlockEnd_samePeriod c).trans <| (State.settlingComplete_samePeriod c _).trans <|
    (State.hitEnd_samePeriod c _).trans <| (State.forcedEnd_samePeriod c _).trans <|
      (State.lockoutEnd_samePeriod c _).trans <| (State.laneLost_samePeriod c _).trans
        (State.laneRecovered_samePeriod c _)

theorem State.closeSample_samePeriod (s : State) : s.SamePeriod s.closeSample :=
  s.allSeen_samePeriod.trans <| (State.lastCuts_samePeriod _).trans <|
    (State.SamePeriod.foldl (fun u c => u.catchUp_samePeriod c) _ _).trans (State.takeOffers_samePeriod _)

theorem State.peakFixed_samePeriod (c : Chan) (s : State) : s.SamePeriod (s.peakFixed c) := by
  unfold State.peakFixed
  split
  · exact s.modCh_samePeriod c _
  · exact .refl s

end Sys2Proof.Machine
end

section
/-! PROOFS. What each command does to the run state (08, R151), and that a held check stands (07, R136). -/

namespace Sys2Proof.Machine

/-- The listed moves of the run state, and the commands that make them (R151). -/
def RunMoves (c : Instr) (s t : State) : Prop :=
  (s.ctl.run = .armed ∧ t.ctl.run = .freezing ∧
    (c = .stop ∨ c = .timeLimit ∨ (∃ code, c = .conversionComplete code) ∨ ∃ ch v, c = .laneSample ch v)) ∨
  (s.ctl.run = .freezing ∧ t.ctl.run = .frozen ∧ c = .drainComplete) ∨
  ((s.ctl.run = .idle ∨ s.ctl.run = .frozen) ∧ t.ctl.run = .armed ∧ c = .arm) ∨
  (s.ctl.run = .frozen ∧ c = .armResume ∧
    (t.ctl.run = .armed ∨ (t.ctl.run = .freezing ∧ s.tick = 281474976710655))) ∨
  (t.ctl.run = .idle ∧ (c = .resetRun ∨ c = .fullReset ∨ ∃ b, c = .fullResetEnd b))

/-! ### Steps that leave the run state (01, 02, 09, 10) -/

theorem State.Stays.of_sameLaw {s t : State} (same : s.SameLaw t)
    (held : s.ChecksHeld → t.chk.check = s.chk.check) : s.Stays t := .of_check same.run same.tick held

/-- With no check in progress none is held. -/
theorem State.Stays.of_free {s t : State} (run : t.ctl.run = s.ctl.run) (tick : s.tick ≤ t.tick)
    (free : s.chk.check = none) : s.Stays t :=
  ⟨run, tick, fun ck held => by have := held.progress; simp [free] at this⟩

theorem State.pressurePeriod_stays (s : State) : s.Stays s.pressurePeriod := by
  unfold State.pressurePeriod
  split
  · exact .of_frames rfl rfl rfl
  · exact .refl s

theorem State.frameByte_chk (s : State) (got : List Byte) : (s.frameByte got).chk = s.chk := by
  unfold State.frameByte
  (repeat' split) <;> simp

theorem State.rxByte_stays (s : State) (b : Byte) : s.Stays (s.rxByte b) := by
  refine .of_sameLaw (s.rxByte_sameLaw b) fun _ => congrArg CheckUnit.check ?_
  unfold State.rxByte
  (repeat' split) <;> simp [State.frameByte_chk]

theorem State.truncated_chk (s : State) : s.truncated.chk = s.chk := by
  unfold State.truncated
  (repeat' split) <;> simp

theorem State.truncated_stays (s : State) : s.Stays s.truncated :=
  .of_sameLaw s.truncated_sameLaw fun _ => congrArg CheckUnit.check s.truncated_chk

theorem State.frameReceived_stays (bytes : List Byte) (s : State) : s.Stays (s.frameReceived bytes) :=
  s.truncated_stays.trans (.foldl State.rxByte_stays bytes _)

theorem State.framingError_stays (s : State) : s.Stays s.framingError := by
  refine .of_sameLaw s.framingError_sameLaw fun _ => congrArg CheckUnit.check ?_
  unfold State.framingError
  split <;> simp [State.truncated_chk]

theorem State.lineBreak_stays (s : State) : s.Stays s.lineBreak := by
  refine .of_sameLaw s.lineBreak_sameLaw fun _ => congrArg CheckUnit.check ?_
  unfold State.lineBreak
  split <;> simp [State.truncated_chk]

theorem State.lineBreakEnd_stays (s : State) : s.Stays s.lineBreakEnd := by
  unfold State.lineBreakEnd
  split <;> exact .of_frames rfl rfl rfl

theorem State.hrdyChange_stays (level : Bool) (s : State) : s.Stays (s.hrdyChange level) := by
  unfold State.hrdyChange
  split <;> exact .of_frames rfl rfl rfl

theorem State.frameSent_stays (s : State) : s.Stays s.frameSent := by
  unfold State.frameSent
  split <;> exact .of_frames rfl rfl rfl

theorem State.ageLimit_stays (s : State) : s.Stays s.ageLimit := by
  unfold State.ageLimit
  split <;> exact .of_frames rfl rfl rfl

theorem State.summaryTimer_stays (s : State) : s.Stays s.summaryTimer := by
  unfold State.summaryTimer
  split <;> exact .of_frames rfl rfl rfl

/-! ### Steps of the associator and the locator (04, 05, 06) -/

theorem State.close_stays (s : State) (o : OpenEvent) : s.Stays (s.close o) := by
  unfold State.close State.closeEvent State.routeEvent
  dsimp only
  (repeat' split) <;> exact .of_frames rfl rfl rfl

theorem State.decideClosed_stays (s : State) (r : HitRec) : s.Stays (s.decideClosed r) := by
  unfold State.decideClosed
  (repeat' split) <;> exact .of_frames rfl rfl rfl

theorem State.decideOpen_stays (s : State) (r : HitRec) : s.Stays (s.decideOpen r) := by
  unfold State.decideOpen
  (repeat' split) <;> exact .of_frames rfl rfl rfl

theorem State.moveTo_stays (s : State) (t : Nat) : s.Stays (s.moveTo t) := .of_frames rfl rfl rfl

theorem State.handOver_stays (s : State) : s.Stays s.handOver := by
  unfold State.handOver
  split
  · exact .refl s
  · refine State.Stays.trans ?_ (State.moveTo_stays _ _)
    unfold State.decideEntry
    split
    · exact s.decideClosed_stays _
    · split
      · exact s.decideOpen_stays _
      · exact (s.close_stays _).trans (State.decideClosed_stays _ _)

theorem State.closeByHorizon_stays (s : State) : s.Stays s.closeByHorizon := by
  unfold State.closeByHorizon
  (repeat' split) <;> first | exact .refl s | exact (s.close_stays _).trans (State.moveTo_stays _ _)

theorem State.locationStart_stays (s : State) : s.Stays s.locationStart := by
  unfold State.locationStart
  split <;> exact .of_frames rfl rfl rfl

theorem State.accumulate_chk (s : State) (nc nr : Nat) (e : EventRec) (p : LocPart) :
    (s.accumulate nc nr e p).chk = s.chk := by
  unfold State.accumulate
  dsimp only
  split <;> rfl

theorem State.locationEnd_stays (s : State) : s.Stays s.locationEnd := by
  refine .of_sameLaw s.locationEnd_sameLaw fun _ => congrArg CheckUnit.check ?_
  unfold State.locationEnd
  dsimp only
  (repeat' split) <;> simp [State.accumulate_chk, State.freeLocator]

/-! ### Steps of the check unit (07) -/

theorem State.gatheringComplete_stays (s : State) : s.Stays s.gatheringComplete :=
  .of_sameLaw s.gatheringComplete_sameLaw fun held => by rw [State.gatheringComplete_of_held held]

theorem State.pulse_stays (s : State) : s.Stays s.pulse :=
  .of_sameLaw s.pulse_sameLaw fun held => by rw [State.pulse_of_held held]

theorem State.listeningWindowEnd_stays (s : State) : s.Stays s.listeningWindowEnd :=
  .of_sameLaw s.listeningWindowEnd_sameLaw fun held => by rw [State.listeningWindowEnd_of_held held]

theorem State.sampleTesting_stays (c : Chan) (mag : Nat) (count : Bool) (s : State) :
    s.Stays (State.sampleTesting c mag count s) :=
  .of_sameLaw (s.sampleTesting_sameLaw c mag count) fun held => by rw [State.sampleTesting_of_held held]

theorem State.feedPattern_stays (s : State) : s.Stays s.feedPattern :=
  .of_sameLaw s.feedPattern_sameLaw fun held => by rw [State.feedPattern_of_held held]

theorem State.patternOutcome_stays (s : State) (c : Chan) : s.Stays (s.patternOutcome c) :=
  .of_sameLaw (s.patternOutcome_sameLaw c) fun held => by rw [State.patternOutcome_of_held held]

theorem State.releaseCheck_endSpan_run (s : State) (ck : Check) :
    ((s.releaseCheck ck).endSpan ck).ctl.run = s.ctl.run ∧ ((s.releaseCheck ck).endSpan ck).tick = s.tick := by
  simp

theorem State.checkComplete_stays (s : State) : s.Stays s.checkComplete := by
  unfold State.checkComplete
  split
  · exact .refl s
  · next ck moving =>
    split
    · have kept := State.keepResult_sameLaw s ck ((s.releaseCheck ck).endSpan ck)
      have released := s.releaseCheck_endSpan_run ck
      refine .of_check (kept.run.trans released.1) (released.2 ▸ kept.tick) fun held => ?_
      rw [State.movingCheck_of_held held] at moving
      cases moving
    · exact .refl s

end Sys2Proof.Machine
end

section
/-! PROOFS. The moves of the run state (08, R151): the steps that may freeze the run, the requests, every command. -/

namespace Sys2Proof.Machine

/-! ### Steps that may freeze the run (R2, R157, R158) -/

/-- From s to t all stands, or an ARMED run freezes. -/
def State.MayFreeze (s t : State) : Prop := s.Stays t ∨ (s.ctl.run = .armed ∧ t.ctl.run = .freezing)

theorem State.Stays.mayFreeze {s t : State} (h : s.Stays t) : s.MayFreeze t := .inl h

theorem State.MayFreeze.trans {s t u : State} (h : s.MayFreeze t) (k : t.MayFreeze u) : s.MayFreeze u := by
  rcases h with h | ⟨armed, freezing⟩
  · rcases k with k | ⟨armed, freezing⟩
    · exact .inl (h.trans k)
    · exact .inr ⟨h.run ▸ armed, freezing⟩
  · rcases k with k | ⟨armed', -⟩
    · exact .inr ⟨armed, k.run.trans freezing⟩
    · simp [freezing] at armed'

theorem State.enterFreezing_mayFreeze {s : State} (armed : s.ctl.run = .armed) (why : FreezeReason) (cause : RunCause)
    (detail : RunDetail) : s.MayFreeze (s.enterFreezing why cause detail) :=
  .inr ⟨armed, by rw [State.enterFreezing_ctl]⟩

theorem State.recordClip_stays (s : State) (c : Chan) : s.Stays (s.recordClip c) := .of_frames rfl rfl rfl

theorem State.clipOnset_mayFreeze (s : State) (c : Chan) : s.MayFreeze (s.clipOnset c) := by
  unfold State.clipOnset
  split
  · next armed =>
    split
    · refine (s.recordClip_stays c).mayFreeze.trans ?_
      exact State.enterFreezing_mayFreeze (by exact armed) _ _ _
    · exact (s.recordClip_stays c).mayFreeze
  · exact (State.Stays.refl s).mayFreeze

theorem State.dropTest_mayFreeze (s : State) (pPrev pFilt : Nat) : s.MayFreeze (s.dropTest pPrev pFilt) := by
  unfold State.dropTest
  split
  · next due => exact State.enterFreezing_mayFreeze due.1 _ _ _
  · exact (State.Stays.refl s).mayFreeze

theorem State.timeLimit_mayFreeze (s : State) : s.MayFreeze s.timeLimit := by
  unfold State.timeLimit
  split
  · next due => exact State.enterFreezing_mayFreeze due.1 _ _ _
  · exact (State.Stays.refl s).mayFreeze

theorem State.takeFlag_stays (s : State) (code : Code) : s.Stays (s.takeFlag code) := by
  obtain ⟨r, e⟩ := s.takeFlag_eq code
  rw [e]
  exact .of_frames rfl rfl rfl

/-- The phase aborts a check that began in ARMED alone (R148). -/
theorem State.tellPhase_stays (s : State) (old : Phase) : s.Stays (s.tellPhase old) := by
  unfold State.tellPhase
  split
  · exact .refl s
  · dsimp only
    split
    · exact .of_frames rfl rfl rfl
    · next ck progress =>
      split
      · next due =>
        refine ⟨by simp, Nat.le_of_eq (by simp), fun ck' held => ?_⟩
        cases held.progress.symm.trans progress
        exact absurd due.2 held.began
      · exact .of_frames rfl rfl rfl

theorem State.useP_mayFreeze (s : State) (history : List Nat) (P : Nat) : s.MayFreeze (s.useP history P) := by
  have told (p : Pressure) (old : Phase) : s.Stays (State.tellPhase { s with press := p } old) :=
    State.Stays.trans (t := { s with press := p }) (.of_frames rfl rfl rfl) (State.tellPhase_stays _ old)
  unfold State.useP
  dsimp only
  split
  · exact (told _ _).mayFreeze
  · exact (told _ _).mayFreeze.trans (State.dropTest_mayFreeze _ _ _)

theorem State.conversionComplete_mayFreeze (code : Code) (s : State) : s.MayFreeze (s.conversionComplete code) := by
  have flagged (p : Pressure) : s.Stays (State.takeFlag { s with press := p } code) :=
    State.Stays.trans (t := { s with press := p }) (.of_frames rfl rfl rfl) (State.takeFlag_stays _ code)
  unfold State.conversionComplete
  split
  · unfold State.takeCode
    dsimp only
    split
    · exact (flagged _).mayFreeze.trans (State.useP_mayFreeze _ _ _)
    · exact (flagged _).mayFreeze
  · exact (State.Stays.refl s).mayFreeze

/-! ### Frames of a lane (02) -/

theorem State.countOnset_stays (s : State) (c : Chan) (arrival : Nat) (st : Stamp) :
    s.Stays (s.countOnset c arrival st) := .of_frames (by simp) (by simp) (by simp)

theorem State.openHit_mayFreeze (c : Chan) (mag : Nat) (clip : Bool) (s : State) :
    s.MayFreeze (State.openHit c mag clip s) := by
  have opened (f : Channel → Channel) (st : Stamp) : s.Stays ((s.modCh c f).countOnset c s.tick st) :=
    (s.modCh_samePeriod c f).stays.trans (State.countOnset_stays _ _ _ _)
  unfold State.openHit
  dsimp only
  split
  · exact (opened _ _).mayFreeze.trans (State.clipOnset_mayFreeze _ c)
  · exact (opened _ _).mayFreeze

theorem State.sampleHit_mayFreeze (c : Chan) (h : Hit) (mag : Nat) (count clip : Bool) (s : State) :
    s.MayFreeze (State.sampleHit c h mag count clip s) := by
  have sampled (f : Channel → Channel) := (s.modCh_samePeriod c f).stays.mayFreeze
  unfold State.sampleHit
  dsimp only
  split
  · exact (sampled _).trans (State.clipOnset_mayFreeze _ c)
  · exact sampled _

theorem State.afterHitSample_stays (c : Chan) (before : RunState) (s : State) :
    s.Stays (State.afterHitSample c before s) := by
  unfold State.afterHitSample
  split
  · exact ((s.cutCh_samePeriod c).trans (State.finishCuts_samePeriod _)).stays
  · exact .refl s

theorem State.takeSample_mayFreeze (c : Chan) (sample : Sample) (s : State) : s.MayFreeze (s.takeSample c sample) := by
  have heard (f : Channel → Channel) := (s.modCh_samePeriod c f).stays
  unfold State.takeSample
  dsimp only
  split
  · split
    · exact (heard _).mayFreeze.trans (State.openHit_mayFreeze c _ _ _)
    · exact (heard _).mayFreeze
  · exact ((heard _).mayFreeze.trans (State.sampleHit_mayFreeze c _ _ _ _ _)).trans
      (State.afterHitSample_stays c _ _).mayFreeze
  · exact ((heard _).trans (State.sampleTesting_stays c _ _ _)).mayFreeze
  · exact (heard _).mayFreeze

theorem State.laneSample_mayFreeze (c : Chan) (sample : Sample) (s : State) : s.MayFreeze (s.laneSample c sample) := by
  unfold State.laneSample
  split
  · exact (State.Stays.refl s).mayFreeze
  · exact (s.catchUp_samePeriod c).stays.mayFreeze.trans (State.takeSample_mayFreeze c sample _)

theorem State.missingFrame_stays (c : Chan) (s : State) : s.Stays (s.missingFrame c) := by
  unfold State.missingFrame
  split
  · exact .refl s
  · refine (s.catchUp_samePeriod c).stays.trans ?_
    unfold State.takeMissing
    dsimp only
    split
    · exact (State.modCh_samePeriod _ c _).stays.trans (State.afterHitSample_stays c _ _)
    · exact (State.modCh_samePeriod _ c _).stays

/-! ### TICK (01) -/

theorem State.advance_stays (s : State) : s.Stays s.advance := by
  refine .of_check rfl ?_ fun _ => by simp only [State.advance]
  change s.tick ≤ nextTick s.tick
  unfold nextTick
  split <;> omega

theorem State.tickStep_stays (s : State) : s.Stays s.tickStep := by
  have decided : s.Stays s.closeSample.decidePatterns :=
    s.closeSample_samePeriod.stays.trans (.foldl State.patternOutcome_stays _ _)
  unfold State.tickStep
  split
  · exact (decided.trans (State.advance_stays _)).trans (State.feedPattern_stays _)
  · exact decided.trans (State.advance_stays _)

/-! ### The rules of the requests (R175) -/

/-- A rule leaves the run state and a held check. -/
def RuleStays (rule : List Byte → State → Answer) : Prop := ∀ payload (s : State), s.Stays (rule payload s).1

theorem State.freeSlot_stays (s : State) : s.Stays s.freeSlot := .of_frames rfl rfl rfl

theorem State.answer_stays (s : State) (f : Frame) (r : Result) (data : List Byte) : s.Stays (s.answer f r data) :=
  .of_frames rfl rfl rfl

theorem State.handle_stays {rule : List Byte → State → Answer} (stays : RuleStays rule) (isRow : Frame → Bool)
    (s : State) : s.Stays (State.handle isRow rule s) := by
  rcases State.handle_cases isRow rule s with ⟨-, e⟩ | ⟨f, -, e⟩
  · rw [e]
    exact .refl s
  · rw [e]
    exact (s.freeSlot_stays.trans (stays _ _)).trans (State.answer_stays _ _ _ _)

theorem ruleStays_of_noPayload {rule : List Byte → State → Answer} {act : State → Answer} (is : rule = noPayload act)
    (asked : ∀ s : State, s.Stays (act s).1) : RuleStays rule := by
  intro payload s
  rw [is]
  match payload with
  | [] => exact asked s
  | _ :: _ => exact .refl s

theorem identifyRule_stays : RuleStays identifyRule := ruleStays_of_noPayload rfl .refl

theorem statusRule_stays : RuleStays statusRule := ruleStays_of_noPayload rfl fun _ => .of_frames rfl rfl rfl

theorem alarmClearRule_stays : RuleStays alarmClearRule := ruleStays_of_noPayload rfl fun _ => .of_frames rfl rfl rfl

theorem zoneReadRule_stays : RuleStays zoneReadRule := ruleStays_of_noPayload rfl .refl

theorem mapClearRule_stays : RuleStays mapClearRule :=
  ruleStays_of_noPayload rfl fun _ => by split <;> exact .of_frames rfl rfl rfl

theorem checkAbortRule_stays : RuleStays checkAbortRule :=
  ruleStays_of_noPayload rfl fun _ => by split <;> exact .of_frames rfl rfl rfl

theorem State.takeEnable_stays (c : Chan) (carried : Option Nat) (s : State) :
    s.Stays (State.takeEnable c carried s) := by
  have set (f : Channel → Channel) := (s.modCh_samePeriod c f).stays
  unfold State.takeEnable
  split
  · exact .refl s
  · exact set _
  · split
    · dsimp only
      split
      · exact (set _).trans (State.modCh_samePeriod _ c _).stays
      · exact (set _).trans (State.enterFault_samePeriod _ c).stays
    · exact .refl s

theorem State.setChannel_stays (i : ChanItems) (s : State) (c : Chan) : s.Stays (State.setChannel i s c) :=
  (s.modCh_samePeriod c _).stays.trans (State.takeEnable_stays c _ _)

theorem channelSetItems_stays (mask : Vector Bool 16) (i : ChanItems) (s : State) :
    s.Stays (channelSetItems mask i s).1 := by
  have kept (cs : List Chan) : s.Stays (cs.foldl (State.setChannel i) s) := .foldl (State.setChannel_stays i) cs s
  unfold channelSetItems
  split
  · exact .refl s
  · split
    · exact .refl s
    · split
      · exact .refl s
      · split
        · exact .refl s
        · exact kept _

theorem channelSetRule_stays : RuleStays channelSetRule := by
  intro payload s
  unfold channelSetRule
  split
  · split
    · exact channelSetItems_stays _ _ s
    · exact .refl s
  · exact .refl s

theorem channelGetRule_stays : RuleStays channelGetRule := by
  intro payload s
  unfold channelGetRule
  (repeat' split) <;> exact .refl s

theorem pressureSetRule_stays : RuleStays pressureSetRule := by
  intro payload s
  unfold pressureSetRule pressureStore
  (repeat' split) <;> exact .of_frames rfl rfl rfl

theorem geometrySetRule_stays : RuleStays geometrySetRule := by
  intro payload s
  unfold geometrySetRule geometryStore
  (repeat' split) <;> exact .of_frames rfl rfl rfl

theorem sensorPlaceRule_stays : RuleStays sensorPlaceRule := by
  intro payload s
  unfold sensorPlaceRule sensorPlaceStore
  (repeat' split) <;> exact .of_frames rfl rfl rfl

theorem sensorUnplaceRule_stays : RuleStays sensorUnplaceRule := by
  intro payload s
  unfold sensorUnplaceRule sensorUnplaceStore
  (repeat' split) <;> exact .of_frames rfl rfl rfl

theorem windowSetRule_stays : RuleStays windowSetRule := by
  intro payload s
  unfold windowSetRule windowStore
  (repeat' split) <;> exact .of_frames rfl rfl rfl

theorem zoneSetRule_stays : RuleStays zoneSetRule := by
  intro payload s
  unfold zoneSetRule zoneStore
  (repeat' split) <;> exact .of_frames rfl rfl rfl

theorem associationSetRule_stays : RuleStays associationSetRule := by
  intro payload s
  unfold associationSetRule associationStore
  (repeat' split) <;> exact .of_frames rfl rfl rfl

theorem clusterSetRule_stays : RuleStays clusterSetRule := by
  intro payload s
  unfold clusterSetRule clusterStore
  (repeat' split) <;> exact .of_frames rfl rfl rfl

theorem ruptureSetRule_stays : RuleStays ruptureSetRule := by
  intro payload s
  unfold ruptureSetRule ruptureStore
  (repeat' split) <;> exact .of_frames rfl rfl rfl

theorem reportSetRule_stays : RuleStays reportSetRule := by
  intro payload s
  unfold reportSetRule reportStore
  (repeat' split) <;> exact .of_frames rfl rfl rfl

theorem mapReadRule_stays : RuleStays mapReadRule := by
  intro payload s
  unfold mapReadRule
  (repeat' split) <;> exact .refl s

theorem baselineReadRule_stays : RuleStays baselineReadRule := by
  intro payload s
  unfold baselineReadRule
  (repeat' split) <;> exact .refl s

theorem baselineLatestRule_stays : RuleStays baselineLatestRule := fun _ => .refl

theorem unknownKindRule_stays : RuleStays unknownKindRule := fun _ => .refl

theorem patternLoadRule_stays : RuleStays patternLoadRule := by
  intro payload s
  unfold patternLoadRule patternStore
  (repeat' split) <;> first | exact .refl s | exact .of_check rfl (Nat.le_refl _) fun _ => rfl

theorem State.beginCheck_stays {s : State} (free : s.chk.check = none) (ck : Check) (policy : Policy) :
    s.Stays (s.beginCheck ck policy) := by
  rw [State.beginCheck_eq]
  exact .of_free rfl (Nat.le_refl _) free

theorem checkStartShortRule_stays : RuleStays checkStartShortRule := by
  intro payload s
  unfold checkStartShortRule
  split
  · split
    · split
      · exact .refl s
      · next passed =>
        have free := (State.free_of_pulseCheckTest passed).1
        unfold checkShort
        (repeat' split) <;> first | exact .refl s | exact State.beginCheck_stays free _ _
    · exact .refl s
  · exact .refl s

theorem checkStartLongRule_stays : RuleStays checkStartLongRule := by
  intro payload s
  unfold checkStartLongRule
  split
  · split
    · exact .refl s
    · next passed =>
      have free := (State.free_of_pulseCheckTest passed).1
      unfold checkLong
      (repeat' split) <;> first | exact .refl s | exact State.beginCheck_stays free _ _
  · exact .refl s

theorem checkStartPatternRule_stays : RuleStays checkStartPatternRule := by
  intro payload s
  unfold checkStartPatternRule
  split
  · split
    · exact .refl s
    · next passed =>
      have free := (State.free_of_patternCheckTest passed).1
      unfold checkPattern
      (repeat' split) <;> first | exact .refl s | exact State.beginCheck_stays free _ _
  · exact .refl s

/-! ### Every command -/

/-- Command i leaves the run state and a held check, or makes its listed move, which leaves a held check. -/
def Moves (i : Instr) : Prop :=
  ∀ s t, exec i s = .next t → s.Stays t ∨ (RunMoves i s t ∧ ∀ ck, s.Held ck → t.chk.check = some ck)

/-- A command is judged by its step: a held full reset takes none (R163). -/
theorem moves_of_live {i : Instr} {f : State → State} (row : ∀ s, exec i s = live f s)
    (step : ∀ s : State, s.Stays (f s) ∨ (RunMoves i s (f s) ∧ ∀ ck, s.Held ck → (f s).chk.check = some ck)) : Moves i := by
  intro s t ran
  rw [row] at ran
  cases ran
  split
  · exact .inl (.refl s)
  · exact step s

theorem moves_of_step {i : Instr} {f : State → State} (row : ∀ s, exec i s = live f s) (step : ∀ s : State, s.Stays (f s)) :
    Moves i := moves_of_live row fun s => .inl (step s)

theorem moves_of_rule {i : Instr} {isRow : Frame → Bool} {rule : List Byte → State → Answer}
    (row : ∀ s, exec i s = live (State.handle isRow rule) s) (stays : RuleStays rule) : Moves i :=
  moves_of_step row (State.handle_stays stays isRow)

/-- No check is held in ARMED. -/
theorem State.Held.not_armed {s : State} {ck : Check} (held : s.Held ck) : s.ctl.run ≠ .armed := held.held.2

theorem moves_of_freeze {i : Instr} {f : State → State} (row : ∀ s, exec i s = live f s)
    (step : ∀ s : State, s.MayFreeze (f s)) (listed : i = .stop ∨ i = .timeLimit ∨ (∃ code, i = .conversionComplete code) ∨
      ∃ c v, i = .laneSample c v) : Moves i :=
  moves_of_live row fun s => (step s).imp_right fun ⟨armed, freezing⟩ =>
    ⟨.inl ⟨armed, freezing, listed⟩, fun _ held => absurd armed held.not_armed⟩

theorem stop_mayFreeze (s : State) : s.MayFreeze (State.handle (kindIs 0x10#8) stopRule s) := by
  have ruled (payload : List Byte) (u : State) : u.MayFreeze (stopRule payload u).1 := by
    match payload with
    | [] =>
      rw [stopRule, noPayload_nil]
      split
      · next armed => exact State.enterFreezing_mayFreeze armed _ _ _
      · exact (State.Stays.refl u).mayFreeze
    | _ :: _ => exact (State.Stays.refl u).mayFreeze
  rcases State.handle_cases (kindIs 0x10#8) stopRule s with ⟨-, e⟩ | ⟨f, -, e⟩
  · rw [e]
    exact (State.Stays.refl s).mayFreeze
  · rw [e]
    exact (s.freeSlot_stays.mayFreeze.trans (ruled _ _)).trans (State.answer_stays _ _ _ _).mayFreeze

theorem moves_drainComplete : Moves .drainComplete := by
  refine moves_of_live (fun _ => rfl) fun s => ?_
  unfold State.drainComplete
  split
  · next due => exact .inr ⟨.inr (.inl ⟨due.1, rfl, rfl⟩), fun _ held => held.progress⟩
  · exact .inl (.refl s)

theorem State.run_of_armTest {s : State} (passed : s.armTest = none) : s.ctl.run = .idle ∨ s.ctl.run = .frozen := by
  have free := State.free_of_armTest passed
  cases run : s.ctl.run with
  | idle => exact .inl rfl
  | frozen => exact .inr rfl
  | armed =>
    rw [State.armTest_of_armed free run] at passed
    cases passed
  | freezing =>
    rw [State.armTest_of_busy (.inl run)] at passed
    cases passed

theorem moves_arm : Moves .arm := by
  refine moves_of_live (fun _ => rfl) fun s => ?_
  rcases State.handle_cases isArmFresh armRule s with ⟨-, e⟩ | ⟨f, -, e⟩
  · rw [e]
    exact .inl (.refl s)
  · rw [e]
    have stays (data : List Byte) (r : Result) : s.Stays (s.freeSlot.answer f r data) :=
      s.freeSlot_stays.trans (State.answer_stays _ _ _ _)
    unfold armRule
    split
    · split
      · exact .inl (stays _ _)
      · next passed =>
        split
        · have free : s.chk.check = none := State.free_of_armTest (s := s.freeSlot) passed
          refine .inr ⟨.inr (.inr (.inl ⟨State.run_of_armTest (s := s.freeSlot) passed, ?_, rfl⟩)), fun ck held => ?_⟩
          · rw [State.answer_ctl, State.armFresh_ctl]
            rfl
          · have := held.progress
            simp [free] at this
        · exact .inl (stays _ _)
    · exact .inl (stays _ _)

theorem moves_armResume : Moves .armResume := by
  refine moves_of_live (fun _ => rfl) fun s => ?_
  rcases State.handle_cases (kindOnly 0x0F#8 1#8) armResumeRule s with ⟨-, e⟩ | ⟨f, -, e⟩
  · rw [e]
    exact .inl (.refl s)
  · rw [e]
    have stays (data : List Byte) (r : Result) : s.Stays (s.freeSlot.answer f r data) :=
      s.freeSlot_stays.trans (State.answer_stays _ _ _ _)
    unfold armResumeRule
    split
    · exact .inl (stays _ _)
    · next passed =>
      split
      · exact .inl (stays _ _)
      · next notIdle =>
        have free : s.chk.check = none := State.free_of_armTest (s := s.freeSlot) passed
        have frozen : s.ctl.run = .frozen :=
          (State.run_of_armTest (s := s.freeSlot) passed).resolve_left notIdle
        refine .inr ⟨.inr (.inr (.inr (.inl ⟨frozen, rfl, ?_⟩))), fun ck held => ?_⟩
        · rw [State.answer_ctl, State.armResume_ctl]
          split
          · next limit => exact .inr ⟨rfl, limit⟩
          · exact .inl rfl
        · have := held.progress
          simp [free] at this

/-- Every command but the abort of a check and the resets. -/
theorem moves_of_no_abort (i : Instr) (noAbort : i ≠ .checkAbort) (noRunReset : i ≠ .resetRun)
    (noReset : i ≠ .fullReset) (noEnd : ∀ baud, i ≠ .fullResetEnd baud) : Moves i := by
  cases i with
  | checkAbort => exact absurd rfl noAbort
  | resetRun => exact absurd rfl noRunReset
  | fullReset => exact absurd rfl noReset
  | fullResetEnd baud => exact absurd rfl (noEnd baud)
  | tick => exact moves_of_step (fun _ => rfl) State.tickStep_stays
  | timeLimit => exact moves_of_freeze (fun _ => rfl) State.timeLimit_mayFreeze (.inr (.inl rfl))
  | pressurePeriod => exact moves_of_step (fun _ => rfl) State.pressurePeriod_stays
  | conversionComplete code =>
    exact moves_of_freeze (fun _ => rfl) (State.conversionComplete_mayFreeze code) (.inr (.inr (.inl ⟨code, rfl⟩)))
  | laneSample c sample =>
    exact moves_of_freeze (fun _ => rfl) (State.laneSample_mayFreeze c sample) (.inr (.inr (.inr ⟨c, sample, rfl⟩)))
  | missingFrame c => exact moves_of_step (fun _ => rfl) (State.missingFrame_stays c)
  | peakFixed c => exact moves_of_step (fun _ => rfl) fun s => (s.peakFixed_samePeriod c).stays
  | hitEnd c => exact moves_of_step (fun _ => rfl) fun s => (s.hitEnd_samePeriod c).stays
  | forcedEnd c => exact moves_of_step (fun _ => rfl) fun s => (s.forcedEnd_samePeriod c).stays
  | lockoutEnd c => exact moves_of_step (fun _ => rfl) fun s => (s.lockoutEnd_samePeriod c).stays
  | laneLost c => exact moves_of_step (fun _ => rfl) fun s => (s.laneLost_samePeriod c).stays
  | laneRecovered c => exact moves_of_step (fun _ => rfl) fun s => (s.laneRecovered_samePeriod c).stays
  | settlingComplete c => exact moves_of_step (fun _ => rfl) fun s => (s.settlingComplete_samePeriod c).stays
  | noiseBlockEnd c => exact moves_of_step (fun _ => rfl) fun s => (s.noiseBlockEnd_samePeriod c).stays
  | handOver => exact moves_of_step (fun _ => rfl) State.handOver_stays
  | closeByHorizon => exact moves_of_step (fun _ => rfl) State.closeByHorizon_stays
  | locationStart => exact moves_of_step (fun _ => rfl) State.locationStart_stays
  | locationEnd => exact moves_of_step (fun _ => rfl) State.locationEnd_stays
  | drainComplete => exact moves_drainComplete
  | gatheringComplete => exact moves_of_step (fun _ => rfl) State.gatheringComplete_stays
  | pulse => exact moves_of_step (fun _ => rfl) State.pulse_stays
  | listeningWindowEnd => exact moves_of_step (fun _ => rfl) State.listeningWindowEnd_stays
  | checkComplete => exact moves_of_step (fun _ => rfl) State.checkComplete_stays
  | patternOutcome c => exact moves_of_step (fun _ => rfl) fun s => s.patternOutcome_stays c
  | frameReceived bytes => exact moves_of_step (fun _ => rfl) (State.frameReceived_stays bytes)
  | framingError => exact moves_of_step (fun _ => rfl) State.framingError_stays
  | truncated => exact moves_of_step (fun _ => rfl) State.truncated_stays
  | lineBreak => exact moves_of_step (fun _ => rfl) State.lineBreak_stays
  | lineBreakEnd => exact moves_of_step (fun _ => rfl) State.lineBreakEnd_stays
  | hrdyAsserted level =>
    intro s t ran
    cases ran
    exact .inl (s.hrdyChange_stays level)
  | frameSent => exact moves_of_step (fun _ => rfl) State.frameSent_stays
  | ageLimit => exact moves_of_step (fun _ => rfl) State.ageLimit_stays
  | summaryTimer => exact moves_of_step (fun _ => rfl) State.summaryTimer_stays
  | identify => exact moves_of_rule (fun _ => rfl) identifyRule_stays
  | status => exact moves_of_rule (fun _ => rfl) statusRule_stays
  | channelSet => exact moves_of_rule (fun _ => rfl) channelSetRule_stays
  | channelGet => exact moves_of_rule (fun _ => rfl) channelGetRule_stays
  | pressureSet => exact moves_of_rule (fun _ => rfl) pressureSetRule_stays
  | geometrySet => exact moves_of_rule (fun _ => rfl) geometrySetRule_stays
  | sensorPlace => exact moves_of_rule (fun _ => rfl) sensorPlaceRule_stays
  | sensorUnplace => exact moves_of_rule (fun _ => rfl) sensorUnplaceRule_stays
  | windowSet => exact moves_of_rule (fun _ => rfl) windowSetRule_stays
  | zoneSet => exact moves_of_rule (fun _ => rfl) zoneSetRule_stays
  | associationSet => exact moves_of_rule (fun _ => rfl) associationSetRule_stays
  | clusterSet => exact moves_of_rule (fun _ => rfl) clusterSetRule_stays
  | ruptureSet => exact moves_of_rule (fun _ => rfl) ruptureSetRule_stays
  | reportSet => exact moves_of_rule (fun _ => rfl) reportSetRule_stays
  | arm => exact moves_arm
  | armResume => exact moves_armResume
  | stop => exact moves_of_freeze (fun _ => rfl) stop_mayFreeze (.inl rfl)
  | alarmClear => exact moves_of_rule (fun _ => rfl) alarmClearRule_stays
  | mapClear => exact moves_of_rule (fun _ => rfl) mapClearRule_stays
  | mapRead => exact moves_of_rule (fun _ => rfl) mapReadRule_stays
  | zoneRead => exact moves_of_rule (fun _ => rfl) zoneReadRule_stays
  | checkStartShort => exact moves_of_rule (fun _ => rfl) checkStartShortRule_stays
  | checkStartLong => exact moves_of_rule (fun _ => rfl) checkStartLongRule_stays
  | checkStartPattern => exact moves_of_rule (fun _ => rfl) checkStartPatternRule_stays
  | patternLoad => exact moves_of_rule (fun _ => rfl) patternLoadRule_stays
  | baselineRead => exact moves_of_rule (fun _ => rfl) baselineReadRule_stays
  | baselineReadLatest => exact moves_of_rule (fun _ => rfl) baselineLatestRule_stays
  | unknownKind => exact moves_of_rule (fun _ => rfl) unknownKindRule_stays

/-! ### The abort of a check and the resets -/

theorem State.checkAbort_run (s : State) : s.checkAbort.ctl.run = s.ctl.run := by
  have handled := (State.handle_stays checkAbortRule_stays (kindIs 0x16#8) s).run
  unfold State.checkAbort
  split
  · rfl
  · split
    · rw [State.abortCheck_ctl, handled]
    · exact handled

theorem State.resetRun_taken_run (s : State) : (State.handle (kindIs 0x03#8) resetRunRule s).ctl.run = s.ctl.run ∨
    (State.handle (kindIs 0x03#8) resetRunRule s).ctl.run = .idle := by
  rcases State.handle_cases (kindIs 0x03#8) resetRunRule s with ⟨-, e⟩ | ⟨f, -, e⟩
  · exact .inl (by rw [e])
  · rw [e]
    match f.payload with
    | [] => exact .inr (by rw [resetRunRule, noPayload_nil, State.answer_ctl, State.resetRun_ctl]; rfl)
    | _ :: _ => exact .inl rfl

/-- A reset leads to IDLE (R162, R163). -/
theorem runMoves_of_reset {i : Instr} (reset : i = .resetRun ∨ i = .fullReset ∨ ∃ b, i = .fullResetEnd b) {s t : State}
    (ran : exec i s = .next t) (moved : t.ctl.run ≠ s.ctl.run) : RunMoves i s t := by
  refine .inr (.inr (.inr (.inr ⟨?_, reset⟩)))
  rcases reset with rfl | rfl | ⟨b, rfl⟩
  · cases held : s.inReset with
    | true =>
      cases (live_of_reset _ held).symm.trans ran
      exact absurd rfl moved
    | false =>
      cases (live_of_running _ held).symm.trans ran
      exact s.resetRun_taken_run.resolve_left moved
  · cases ran
    rfl
  · cases held : s.inReset with
    | true =>
      have ended : t = s.fullResetEnd b := by
        have taken : exec (.fullResetEnd b) s = .next (s.fullResetEnd b) := congrArg Host.Outcome.next (if_pos held)
        exact Host.Outcome.next.inj (ran.symm.trans taken)
      rw [ended, State.fullResetEnd_ctl]
      rfl
    | false =>
      have kept : t = s := by
        have taken : exec (.fullResetEnd b) s = .next s := congrArg Host.Outcome.next (if_neg (by simp [held]))
        exact Host.Outcome.next.inj (ran.symm.trans taken)
      exact absurd (by rw [kept]) moved

end Sys2Proof.Machine

namespace Sys2Proof

open Machine

/-- Settles O60: every command leaves the run state but by its listed move. -/
theorem runMovesOnlyAsListed : Obligations.RunMovesOnlyAsListed := by
  intro i s t ran moved
  by_cases reset : i = .resetRun ∨ i = .fullReset ∨ ∃ b, i = .fullResetEnd b
  · exact runMoves_of_reset reset ran moved
  · simp only [not_or, not_exists] at reset
    obtain ⟨noRunReset, noReset, noEnd⟩ := reset
    by_cases abort : i = .checkAbort
    · subst abort
      refine absurd ?_ moved
      cases held : s.inReset with
      | true =>
        cases (live_of_reset _ held).symm.trans ran
        rfl
      | false =>
        cases (live_of_running _ held).symm.trans ran
        exact s.checkAbort_run
    · rcases moves_of_no_abort i abort noRunReset noReset noEnd s t ran with stays | ⟨listed, -⟩
      · exact absurd stays.run moved
      · exact listed

end Sys2Proof
end

section
/-! PROOFS. The timebase (01, 1.1): TICK and TIME_LIMIT. -/

namespace Sys2Proof.Machine

/-! ### The close of a sample period, as commands (logs 4 and 34) -/

theorem Runs.append {cs ds : List Instr} {s t u : State} (first : Runs cs s t) (second : Runs ds t u) :
    Runs (cs ++ ds) s u := by
  induction cs generalizing s with
  | nil =>
    cases first
    exact second
  | cons c cs ih =>
    obtain ⟨v, ran, rest⟩ := first
    exact ⟨v, ran, ih rest⟩

/-- Commands whose steps leave no reset run as their steps do. -/
theorem Runs.of_step {i : Instr} {f : State → State} {s : State} (row : ∀ s, exec i s = live f s)
    (running : s.inReset = false) : Runs [i] s (f s) := ⟨f s, (row s).trans (live_of_running f running), rfl⟩

/-- The steps due at one channel's samples. -/
theorem State.catchUp_runs {s : State} (running : s.inReset = false) (c : Chan) :
    Runs [.noiseBlockEnd c, .settlingComplete c, .hitEnd c, .forcedEnd c, .lockoutEnd c, .laneLost c, .laneRecovered c]
      s (s.catchUp c) := by
  have noise := s.noiseBlockEnd_samePeriod c
  have settle := noise.trans (State.settlingComplete_samePeriod c _)
  have ended := settle.trans (State.hitEnd_samePeriod c _)
  have forced := ended.trans (State.forcedEnd_samePeriod c _)
  have unlocked := forced.trans (State.lockoutEnd_samePeriod c _)
  have lost := unlocked.trans (State.laneLost_samePeriod c _)
  exact (Runs.of_step (f := State.noiseBlockEnd c) (fun _ => rfl) running).append <|
    (Runs.of_step (f := State.settlingComplete c) (fun _ => rfl) (noise.inReset.trans running)).append <|
    (Runs.of_step (f := State.hitEnd c) (fun _ => rfl) (settle.inReset.trans running)).append <|
    (Runs.of_step (f := State.forcedEnd c) (fun _ => rfl) (ended.inReset.trans running)).append <|
    (Runs.of_step (f := State.lockoutEnd c) (fun _ => rfl) (forced.inReset.trans running)).append <|
    (Runs.of_step (f := State.laneLost c) (fun _ => rfl) (unlocked.inReset.trans running)).append
      (Runs.of_step (f := State.laneRecovered c) (fun _ => rfl) (lost.inReset.trans running))

theorem State.foldl_catchUp_runs (cs : List Chan) {s : State} (running : s.inReset = false) :
    Runs (cs.flatMap fun c => [.noiseBlockEnd c, .settlingComplete c, .hitEnd c, .forcedEnd c, .lockoutEnd c,
      .laneLost c, .laneRecovered c]) s (cs.foldl (fun u c => u.catchUp c) s) := by
  induction cs generalizing s with
  | nil => rfl
  | cons c cs ih =>
    rw [List.flatMap_cons, List.foldl_cons]
    exact (State.catchUp_runs running c).append (ih ((s.catchUp_samePeriod c).inReset.trans running))

theorem State.sampled_samePeriod (s : State) : s.SamePeriod s.sampled := by
  have seen : s.sampled = s.allSeen.lastCuts := by
    have run : s.allSeen.ctl.run = s.ctl.run := rfl
    rw [State.lastCuts_eq, State.sampled, run]
    rfl
  rw [seen]
  exact s.allSeen_samePeriod.trans (State.lastCuts_samePeriod _)

/-! ### The outcomes due change the check alone (R146) -/

/-- Only the check in progress differs. -/
def State.OnlyCheck (s t : State) : Prop := ∃ ck, t = { s with chk := { s.chk with check := ck } }

theorem State.OnlyCheck.refl (s : State) : s.OnlyCheck s := ⟨s.chk.check, rfl⟩

theorem State.OnlyCheck.trans {s t u : State} (h : s.OnlyCheck t) (k : t.OnlyCheck u) : s.OnlyCheck u := by
  obtain ⟨a, rfl⟩ := h
  obtain ⟨b, rfl⟩ := k
  exact ⟨b, rfl⟩

theorem State.OnlyCheck.tick {s t : State} (h : s.OnlyCheck t) : t.tick = s.tick := by
  obtain ⟨_, rfl⟩ := h
  rfl

theorem State.patternOutcome_onlyCheck (s : State) (c : Chan) : s.OnlyCheck (s.patternOutcome c) := by
  unfold State.patternOutcome
  (repeat' split) <;> first | exact .refl s | exact ⟨_, rfl⟩

theorem State.feedPattern_onlyCheck (s : State) : s.OnlyCheck s.feedPattern := by
  unfold State.feedPattern
  (repeat' split) <;> first | exact .refl s | exact ⟨_, rfl⟩

theorem State.decidePatterns_onlyCheck (s : State) : s.OnlyCheck s.decidePatterns :=
  foldl_holds (State.OnlyCheck s) State.patternOutcome (fun t c k => k.trans (t.patternOutcome_onlyCheck c)) _ _ (.refl s)

theorem State.decidePatterns_runs {s : State} (running : s.inReset = false) :
    Runs (allChans.map Instr.patternOutcome) s s.decidePatterns := by
  have each (cs : List Chan) (u : State) (live : u.inReset = false) :
      Runs (cs.map Instr.patternOutcome) u (cs.foldl State.patternOutcome u) := by
    induction cs generalizing u with
    | nil => rfl
    | cons c cs ih =>
      obtain ⟨ck, same⟩ := u.patternOutcome_onlyCheck c
      exact (Runs.of_step (f := fun s => s.patternOutcome c) (fun _ => rfl) live).append
        (ih (u.patternOutcome c) (by rw [same]; exact live))
  exact each allChans s running

/-- No PATTERN check is replaying. -/
def State.NoReplay (s : State) : Prop := ∀ ck, s.chk.check = some ck → ck.running = false ∨ ck.kind ≠ .pattern

theorem State.patternOutcome_of_noReplay {s : State} (none : s.NoReplay) (c : Chan) : s.patternOutcome c = s := by
  by_cases held : s.ChecksHeld
  · exact State.patternOutcome_of_held held c
  · unfold State.patternOutcome
    rw [State.movingCheck_of_not_held held]
    split
    · rfl
    · next ck progress =>
      refine if_neg ?_
      rcases none ck progress with still | other
      · simp [still]
      · simp [other]

theorem State.feedPattern_of_noReplay {s : State} (none : s.NoReplay) : s.feedPattern = s := by
  by_cases held : s.ChecksHeld
  · exact State.feedPattern_of_held held
  · unfold State.feedPattern
    rw [State.movingCheck_of_not_held held]
    split
    · rfl
    · next ck progress =>
      refine if_neg ?_
      rcases none ck progress with still | other
      · simp [still]
      · simp [other]

/-! ### TICK (R1 to R3, R106, R169, R186) -/

theorem Link.tick_eq (l : Link) : l.tick = { l with timer := match l.rx with
    | .frame _ => l.timer + 1
    | _ => l.timer } := by
  cases l with
  | mk rate rx => cases rx <;> rfl

theorem Report.tick_eq (r : Report) : r.tick = { r with timer := if r.period = 0 then r.timer else r.timer + 1 } := by
  unfold Report.tick
  split <;> rfl

theorem nextTick_eq (t : Nat) : nextTick t = if t < 281474976710655 then t + 1 else t := rfl

/-- A TICK is the close of the period, the outcomes due, the timers, and where it counts the replay. -/
theorem State.tickStep_eq (s : State) : s.tickStep =
    if s.tick < 281474976710655 then s.closeSample.decidePatterns.advance.feedPattern
    else s.closeSample.decidePatterns.advance := rfl

theorem State.tickStep_onlyCheck (s : State) : s.closeSample.decidePatterns.advance.OnlyCheck s.tickStep := by
  rw [State.tickStep_eq]
  split
  · exact State.feedPattern_onlyCheck _
  · exact .refl _

/-- The timers of v, a state of the period of s, after the TICK. -/
theorem State.SamePeriod.advance_eq {s v : State} (same : s.SamePeriod v) : v.advance =
    { v with
      tick := if s.tick < 281474976710655 then s.tick + 1 else s.tick
      press := { s.press with periodTimer := s.press.periodTimer + 1 }
      chans := Vector.ofFn fun c => { v.chans[c] with frameSeen := false }
      loc := { s.loc with busy := s.loc.busy.map fun b => { b with left := b.left - 1 } }
      link := { s.link with timer := match s.link.rx with
        | .frame _ => s.link.timer + 1
        | _ => s.link.timer }
      rep := { v.rep with timer := if s.rep.period = 0 then s.rep.timer else s.rep.timer + 1 } } := by
  have rep : v.rep.tick = { v.rep with timer := if s.rep.period = 0 then s.rep.timer else s.rep.timer + 1 } := by
    rw [Report.tick_eq]
    have timer : (if v.rep.period = 0 then v.rep.timer else v.rep.timer + 1) =
        if s.rep.period = 0 then s.rep.timer else s.rep.timer + 1 := by rw [same.period, same.timer]
    rw [timer]
  unfold State.advance
  rw [rep, same.tick, same.press, same.loc, same.link, nextTick_eq, Link.tick_eq, Locator.tick]

theorem State.SamePeriod.ticked {s v t : State} {k : CheckUnit} (same : s.SamePeriod v)
    (isNext : t = { v.advance with chk := k }) : t =
    { v with
      tick := if s.tick < 281474976710655 then s.tick + 1 else s.tick
      press := { s.press with periodTimer := s.press.periodTimer + 1 }
      chans := Vector.ofFn fun c => { v.chans[c] with frameSeen := false }
      loc := { s.loc with busy := s.loc.busy.map fun b => { b with left := b.left - 1 } }
      link := { s.link with timer := match s.link.rx with
        | .frame _ => s.link.timer + 1
        | _ => s.link.timer }
      rep := { v.rep with timer := if s.rep.period = 0 then s.rep.timer else s.rep.timer + 1 }
      chk := k } := by
  rw [isNext, same.advance_eq]

/-- A TICK, but for the check in progress. -/
theorem State.tickStep_advance (s : State) : s.tickStep = { s.closeSample.advance with chk := s.tickStep.chk } := by
  obtain ⟨a, decided⟩ := s.closeSample.decidePatterns_onlyCheck
  obtain ⟨b, fed⟩ := s.tickStep_onlyCheck
  have pushed (v : State) (k : CheckUnit) : { v with chk := k }.advance = { v.advance with chk := k } := by
    simp only [State.advance]
  rw [decided, pushed] at fed
  rw [fed]

theorem State.advance_tick (s : State) : s.advance.tick = nextTick s.tick := rfl

theorem State.advance_run (s : State) : s.advance.ctl.run = s.ctl.run := rfl

/-- In the hold the TICK replays no sample (R136). -/
theorem State.tickStep_chk_of_limit {s : State} (limit : 281474976710655 ≤ s.tick + 1) (run : s.ctl.run ≠ .armed) :
    s.tickStep.chk = s.closeSample.decidePatterns.chk := by
  have kept (w : State) : w.advance.chk = w.chk := by simp only [State.advance]
  have same : s.Stays s.closeSample.decidePatterns :=
    s.closeSample_samePeriod.stays.trans (.foldl State.patternOutcome_stays _ _)
  rw [State.tickStep_eq]
  split
  · next below =>
    have held : s.closeSample.decidePatterns.advance.ChecksHeld := by
      have tick : s.closeSample.decidePatterns.tick = s.tick :=
        s.closeSample.decidePatterns_onlyCheck.tick.trans s.closeSample_samePeriod.tick
      have next : s.closeSample.decidePatterns.advance.tick = s.tick + 1 := by
        rw [State.advance_tick, tick, nextTick_of_lt below]
      have stands : s.closeSample.decidePatterns.advance.ctl.run = s.ctl.run := (State.advance_run _).trans same.run
      exact ⟨by rw [next]; exact limit, by rw [stands]; exact run⟩
    rw [State.feedPattern_of_held held, kept]
  · rw [kept]

theorem State.tickStep_chk_of_noReplay {s : State} (none : s.closeSample.NoReplay) :
    s.tickStep.chk = s.closeSample.chk := by
  have kept (w : State) : w.advance.chk = w.chk := by simp only [State.advance]
  have decided : s.closeSample.decidePatterns = s.closeSample :=
    State.decidePatterns_of_fixed (State.patternOutcome_of_noReplay none)
  have still : s.closeSample.advance.NoReplay := by
    unfold State.NoReplay
    rw [kept]
    exact none
  rw [State.tickStep_eq, decided]
  split
  · rw [State.feedPattern_of_noReplay still, kept]
  · rw [kept]

end Sys2Proof.Machine

namespace Sys2Proof

open Machine

/-- Settles O3: the commands of the close and the timers, the held check by the moves of every command, the freeze. -/
theorem tickCountsToItsLimit : Obligations.TickCountsToItsLimit := by
  refine ⟨fun s running => ?_, fun i s t ck held progress began ran noAbort noRunReset noReset noEnd => ?_,
    fun s running => ?_⟩
  · have closed : (allChans.foldl (fun u c => u.catchUp c) s.sampled).admitted = s.closeSample :=
      s.closeSample_eq.symm
    have same := s.closeSample_samePeriod
    refine ⟨_, _, s.closeSample.decidePatterns, s.tickStep.chk,
      State.foldl_catchUp_runs allChans (s.sampled_samePeriod.inReset.trans running), rfl, ?_, ?_, ?_,
      fun limit run => State.tickStep_chk_of_limit limit run, fun held => ?_⟩
    all_goals rw [closed]
    · exact State.decidePatterns_runs (same.inReset.trans running)
    · have tick : exec .tick s = .next s.tickStep := live_of_running _ running
      rw [tick]
      exact congrArg Host.Outcome.next (same.ticked s.tickStep_advance)
    · exact State.tickStep_chk_of_noReplay
    · have decided : s.closeSample.decidePatterns = s.closeSample :=
        State.decidePatterns_of_fixed (State.patternOutcome_of_held (same.checksHeld.mpr held))
      obtain ⟨limit, run⟩ := held
      rw [State.tickStep_chk_of_limit (by omega) run, decided]
  · have held' : s.Held ck := ⟨held, progress, began⟩
    rcases moves_of_no_abort i noAbort noRunReset noReset noEnd s t ran with stays | ⟨-, kept⟩
    · exact stays.held ck held'
    · exact kept ck held'
  · have limit : exec .timeLimit s = .next s.timeLimit := live_of_running _ running
    rw [limit]
    refine ⟨fun due => ?_, fun other => ?_⟩
    · rw [← State.enterFreezing_eq]
      exact congrArg Host.Outcome.next (if_pos (by exact due))
    · exact congrArg Host.Outcome.next (if_neg (by exact other))

end Sys2Proof
end

section
/-! PROOFS. The receiver (09): the CRC, the bytes of a frame, the receive errors and breaks. -/

namespace Sys2Proof.Machine

/-! ### The CRC (R168) -/

theorem crcBit_eq (reg : BitVec 16) (bit : Bool) :
    crcBit reg bit = (reg <<< 1) ^^^ if reg.msb = bit then 0#16 else 0x1021#16 := by
  unfold crcBit
  by_cases same : reg.msb = bit
  · simp [same]
  · simp [same, bne_iff_ne.mpr same]

/-- A byte enters the register most significant bit first. -/
theorem crc16_append (bs : List Byte) (b : Byte) : crc16 (bs ++ [b]) = (List.range 8).foldl (fun (reg : BitVec 16) k =>
    (reg <<< 1) ^^^ if reg.msb = b.getLsbD (7 - k) then 0#16 else 0x1021#16) (crc16 bs) := by
  have bits : [7, 6, 5, 4, 3, 2, 1, 0] = (List.range 8).map (7 - ·) := by decide
  rw [crc16, List.foldl_append, List.foldl_cons, List.foldl_nil, crcByte, bits, List.foldl_map]
  simp only [crcBit_eq]
  rfl

/-! ### The fields of a frame (R167) -/

/-- Two bytes that give a value of 16 bits are its field. -/
theorem be_two_iff {v : Nat} (small : v < 65536) (hi lo : Byte) : [hi, lo] = be 2 v ↔ hi.toNat * 256 + lo.toNat = v := by
  have field : be 2 v = [BitVec.ofNat 8 (v / 256), BitVec.ofNat 8 v] := rfl
  rw [field, List.cons.injEq, List.cons.injEq, ← BitVec.toNat_inj, ← BitVec.toNat_inj, BitVec.toNat_ofNat,
    BitVec.toNat_ofNat]
  have := hi.isLt
  have := lo.isLt
  simp only [and_true]
  omega

theorem crcAgrees_iff {kind tag n1 n0 c1 c0 : Byte} {payload : List Byte} {n : Nat} (length : payload.length = n) :
    crcAgrees (kind :: tag :: n1 :: n0 :: (payload ++ [c1, c0])) n = true ↔
      c1.toNat * 256 + c0.toNat = (crc16 (kind :: tag :: n1 :: n0 :: payload)).toNat := by
  have split : kind :: tag :: n1 :: n0 :: (payload ++ [c1, c0]) = (kind :: tag :: n1 :: n0 :: payload) ++ [c1, c0] := rfl
  have count : (kind :: tag :: n1 :: n0 :: payload).length = 4 + n := by
    simp only [List.length_cons]
    omega
  rw [crcAgrees, decide_eq_true_iff, split, ← count, List.drop_left, List.take_left,
    be_two_iff (BitVec.isLt _)]

theorem frameOf_eq {kind tag n1 n0 c1 c0 : Byte} {payload : List Byte} {n : Nat} (length : payload.length = n) :
    frameOf (kind :: tag :: n1 :: n0 :: (payload ++ [c1, c0])) n = ⟨kind, tag, payload⟩ := by
  subst length
  simp [frameOf]

/-- More bytes are to come: the length field, or the announced payload and the CRC (R167). -/
def Unfinished (got : List Byte) : Prop := ∀ n, frameLength got = some n → n ≤ 1020 ∧ got.length < 6 + n

theorem unfinished_of_short {got : List Byte} (short : got.length < 4) : Unfinished got := by
  intro n announced
  match got with
  | [] | [_] | [_, _] | [_, _, _] => cases announced
  | _ :: _ :: _ :: _ :: _ =>
    simp only [List.length_cons] at short
    omega

theorem unfinished_of_length {kind tag n1 n0 : Byte} {more : List Byte} (fits : nat16 n1 n0 ≤ 1020)
    (short : more.length < nat16 n1 n0 + 2) : Unfinished (kind :: tag :: n1 :: n0 :: more) := by
  intro n announced
  cases announced
  simp only [List.length_cons]
  omega

/-! ### A frame in assembly (R169, R170) -/

/-- The receiver with these bytes of a frame. -/
def State.joining (s : State) (got : List Byte) : State := { s with link := s.link.goTo (.frame got) }

section
variable {s : State} {got : List Byte}

theorem State.frameByte_of_unfinished (more : Unfinished got) : s.frameByte got = s.joining got := by
  unfold State.frameByte
  split
  · rfl
  · next n announced =>
    obtain ⟨fits, short⟩ := more n announced
    rw [if_neg (by exact Nat.not_lt.mpr fits), if_pos short]
    rfl

theorem State.frameByte_of_complete {kind tag n1 n0 c1 c0 : Byte} {payload : List Byte}
    (length : payload.length = nat16 n1 n0) (fits : nat16 n1 n0 ≤ 1020) :
    s.frameByte (kind :: tag :: n1 :: n0 :: (payload ++ [c1, c0])) =
      if c1.toNat * 256 + c0.toNat = (crc16 (kind :: tag :: n1 :: n0 :: payload)).toNat then
        { s with link := { s.link.goTo .hunt with ready := s.link.ready ++ [⟨kind, tag, payload⟩] } }
      else s.linkError .crc := by
  have count : (kind :: tag :: n1 :: n0 :: (payload ++ [c1, c0])).length = 6 + nat16 n1 n0 := by
    simp only [List.length_cons, List.length_append, List.length_nil]
    omega
  have announced : frameLength (kind :: tag :: n1 :: n0 :: (payload ++ [c1, c0])) = some (nat16 n1 n0) := rfl
  unfold State.frameByte
  simp only [announced]
  rw [if_neg (by exact Nat.not_lt.mpr fits), if_neg (by omega), frameOf_eq length]
  exact if_congr (crcAgrees_iff length) rfl rfl

theorem State.frameByte_of_long {kind tag n1 n0 : Byte} (long : 1020 < nat16 n1 n0) (more : List Byte) :
    s.frameByte (kind :: tag :: n1 :: n0 :: more) = s.linkError .length := if_pos (by exact long)

theorem State.rxByte_of_frame (frame : s.link.rx = .frame got) (slot : got = [] → s.link.ready.length < 2) (b : Byte) :
    s.rxByte b = s.frameByte (got ++ [b]) := by
  unfold State.rxByte
  rw [frame]
  refine if_neg ?_
  rw [Bool.and_eq_true, List.isEmpty_iff, decide_eq_true_iff]
  rintro ⟨empty, full⟩
  exact Nat.not_le.mpr (slot empty) full

/-- The bytes of an unfinished frame are joined one by one. -/
theorem State.foldl_rxByte_joining (slot : s.link.ready.length < 2) (bs : List Byte)
    (unfinished : ∀ a b, bs = a ++ b → Unfinished (got ++ a)) :
    bs.foldl State.rxByte (s.joining got) = s.joining (got ++ bs) := by
  induction bs generalizing got with
  | nil => rw [List.append_nil, List.foldl_nil]
  | cons b bs ih =>
    have joined : (s.joining got).rxByte b = s.joining (got ++ [b]) := by
      rw [State.rxByte_of_frame (s := s.joining got) rfl fun _ => slot]
      exact State.frameByte_of_unfinished (unfinished [b] bs rfl)
    rw [List.foldl_cons, joined, ih, List.append_assoc, List.singleton_append]
    intro a c isBs
    rw [List.append_assoc, List.singleton_append]
    exact unfinished (b :: a) c (by rw [isBs]; rfl)

/-- Every part of a frame short of its last CRC byte is unfinished. -/
theorem unfinished_part {kind tag n1 n0 : Byte} {more a b : List Byte} (fits : nat16 n1 n0 ≤ 1020)
    (short : more.length < nat16 n1 n0 + 2) (parts : kind :: tag :: n1 :: n0 :: more = a ++ b) : Unfinished a := by
  match a with
  | [] | [_] | [_, _] | [_, _, _] => exact unfinished_of_short (by simp)
  | _ :: _ :: _ :: _ :: rest =>
    simp only [List.cons_append, List.cons.injEq] at parts
    obtain ⟨rfl, rfl, rfl, rfl, rfl⟩ := parts
    refine unfinished_of_length fits ?_
    rw [List.length_append] at short
    omega

/-! ### HUNT and SYNC (R169) -/

theorem State.rxByte_of_hunt (hunt : s.link.rx = .hunt) (b : Byte) :
    s.rxByte b = if b = 0xC3#8 then { s with link := s.link.goTo .sync } else s := by
  simp only [State.rxByte, hunt]

theorem State.rxByte_of_sync (sync : s.link.rx = .sync) (b : Byte) : s.rxByte b =
    if b = 0x3C#8 then s.joining [] else if b = 0xC3#8 then s else { s with link := s.link.goTo .hunt } := by
  simp only [State.rxByte, sync]
  rfl

theorem State.rxByte_of_deaf (deaf : s.link.rx = .brk ∨ s.link.rx = .reset) (b : Byte) : s.rxByte b = s := by
  rcases deaf with rx | rx
  · simp only [State.rxByte, rx]
  · simp only [State.rxByte, rx]

/-- In HUNT every byte but C3h is discarded. -/
theorem State.foldl_rxByte_noise (hunt : s.link.rx = .hunt) {noise : List Byte} (quiet : 0xC3#8 ∉ noise) :
    noise.foldl State.rxByte s = s := by
  induction noise with
  | nil => rfl
  | cons b noise ih =>
    obtain ⟨first, rest⟩ := List.ne_and_not_mem_of_not_mem_cons quiet
    rw [List.foldl_cons, State.rxByte_of_hunt hunt, if_neg first.symm, ih rest]

/-- The two sync bytes lead from HUNT to FRAME. -/
theorem State.foldl_rxByte_sync (hunt : s.link.rx = .hunt) (bs : List Byte) :
    (0xC3#8 :: 0x3C#8 :: bs).foldl State.rxByte s = bs.foldl State.rxByte (s.joining []) := by
  rw [List.foldl_cons, List.foldl_cons, State.rxByte_of_hunt hunt, if_pos rfl, State.rxByte_of_sync (by rfl), if_pos rfl]
  rfl

/-- A whole frame comes down to the test of its last CRC byte. -/
theorem State.foldl_rxByte_whole (hunt : s.link.rx = .hunt) (slot : s.link.ready.length < 2) (kind tag : Byte)
    {n1 n0 : Byte} {payload : List Byte} (length : payload.length = nat16 n1 n0) (fits : nat16 n1 n0 ≤ 1020)
    (c1 c0 : Byte) : (0xC3#8 :: 0x3C#8 :: kind :: tag :: n1 :: n0 :: (payload ++ [c1, c0])).foldl State.rxByte s =
      (s.joining (kind :: tag :: n1 :: n0 :: (payload ++ [c1]))).frameByte
        (kind :: tag :: n1 :: n0 :: (payload ++ [c1, c0])) := by
  have bytes : kind :: tag :: n1 :: n0 :: (payload ++ [c1, c0]) =
      (kind :: tag :: n1 :: n0 :: (payload ++ [c1])) ++ [c0] := by
    simp only [List.cons_append, List.append_assoc, List.nil_append]
  have joined := State.foldl_rxByte_joining (got := []) slot (kind :: tag :: n1 :: n0 :: (payload ++ [c1]))
    fun a b parts => unfinished_part fits (by rw [List.length_append, List.length_singleton]; omega) parts
  rw [State.foldl_rxByte_sync hunt, bytes, List.foldl_append, joined, List.foldl_cons, List.foldl_nil, List.nil_append]
  exact State.rxByte_of_frame (s := s.joining _) rfl (fun _ => slot) c0

/-! ### TRUNCATED (R169) -/

/-- No TRUNCATED is due. -/
def State.Fresh (s : State) : Prop := ∀ got, s.link.rx = .frame got → s.link.timer < 50000

theorem State.truncated_of_fresh (fresh : s.Fresh) : s.truncated = s := by
  unfold State.truncated
  split
  · next got frame => exact if_neg (by exact Nat.not_le.mpr (fresh got frame))
  · rfl

theorem State.truncated_of_due (frame : s.link.rx = .frame got) (due : 50000 ≤ s.link.timer) :
    s.truncated = s.linkError .truncated := by
  unfold State.truncated
  rw [frame]
  exact if_pos (by exact due)

theorem State.fresh_of_hunt (hunt : s.link.rx = .hunt) : s.Fresh := by
  intro got frame
  rw [hunt] at frame
  cases frame

theorem State.linkError_fresh (s : State) (e : RxError) : (s.linkError e).Fresh := State.fresh_of_hunt rfl

theorem State.goTo_fresh (s : State) (rx : RxState) : State.Fresh { s with link := s.link.goTo rx } :=
  fun _ _ => Nat.zero_lt_succ _

theorem State.truncated_fresh (s : State) : s.truncated.Fresh := by
  by_cases fresh : s.Fresh
  · rwa [State.truncated_of_fresh fresh]
  · unfold State.Fresh at fresh
    simp only [not_forall, Nat.not_lt] at fresh
    obtain ⟨got, frame, due⟩ := fresh
    rw [State.truncated_of_due frame due]
    exact s.linkError_fresh .truncated

theorem State.frameByte_fresh (s : State) (got : List Byte) : (s.frameByte got).Fresh := by
  unfold State.frameByte
  split
  · exact s.goTo_fresh _
  · split
    · exact s.linkError_fresh _
    · split
      · exact s.goTo_fresh _
      · split
        · exact State.fresh_of_hunt rfl
        · exact s.linkError_fresh _

theorem State.rxByte_fresh (fresh : s.Fresh) (b : Byte) : (s.rxByte b).Fresh := by
  unfold State.rxByte
  split
  · split
    · exact s.goTo_fresh _
    · exact fresh
  · split
    · exact s.goTo_fresh _
    · split
      · exact fresh
      · exact s.goTo_fresh _
  · split
    · exact State.linkError_fresh _ _
    · exact s.frameByte_fresh _
  · exact fresh
  · exact fresh

theorem State.foldl_rxByte_fresh (fresh : s.Fresh) (bs : List Byte) : (bs.foldl State.rxByte s).Fresh :=
  foldl_holds State.Fresh State.rxByte (fun _ b fresh => State.rxByte_fresh fresh b) bs s fresh

theorem State.rxByte_inReset (s : State) (b : Byte) : (s.rxByte b).inReset = s.inReset := by
  unfold State.rxByte State.frameByte
  (repeat' split) <;> simp

theorem State.truncated_inReset (s : State) : s.truncated.inReset = s.inReset := by
  unfold State.truncated
  (repeat' split) <;> simp

theorem State.frameReceived_inReset (bytes : List Byte) (s : State) : (s.frameReceived bytes).inReset = s.inReset :=
  (foldl_keeps (·.inReset) State.rxByte State.rxByte_inReset bytes s.truncated).trans s.truncated_inReset

theorem State.frameReceived_of_fresh (fresh : s.Fresh) (bytes : List Byte) :
    s.frameReceived bytes = bytes.foldl State.rxByte s := by
  rw [State.frameReceived, State.truncated_of_fresh fresh]

/-- Bytes sent together or in two parts. -/
theorem State.frameReceived_append (s : State) (a b : List Byte) :
    s.frameReceived (a ++ b) = (s.frameReceived a).frameReceived b := by
  rw [State.frameReceived_of_fresh (s := s.frameReceived a) (State.foldl_rxByte_fresh s.truncated_fresh a),
    State.frameReceived, State.frameReceived, List.foldl_append]

theorem State.exec_byte (running : s.inReset = false) (fresh : s.Fresh) (b : Byte) :
    exec (.frameReceived [b]) s = .next (s.rxByte b) := by
  have received : exec (.frameReceived [b]) s = .next (s.frameReceived [b]) := live_of_running _ running
  rw [received, State.frameReceived_of_fresh fresh, List.foldl_cons, List.foldl_nil]

end

end Sys2Proof.Machine

namespace Sys2Proof

open Machine

/-- Settles O55: the CRC bit by bit, a byte by the receiver's state, a frame byte by byte, and the parts of a frame. -/
theorem receiverReadsFrames : Obligations.ReceiverReadsFrames := by
  refine ⟨⟨rfl, crc16_append, by decide +kernel⟩, fun s noise payload kind tag running hunt slot quiet fits => ?_,
    fun s b into running isInto => ⟨fun hunt => ?_, fun sync => ?_, fun got frame waits => ⟨fun short slot => ?_,
      fun kind tag n1 n0 more n isGot isN fits => ⟨fun short => ?_, fun payload c1 c0 isMore length agrees => ?_⟩⟩,
      fun deaf => ?_⟩, fun s a b => ?_, fun s got bytes running frame due => ?_⟩
  · have received (bytes : List Byte) : exec (.frameReceived bytes) s = .next (s.frameReceived bytes) :=
      live_of_running _ running
    have field : be 2 payload.length = [BitVec.ofNat 8 (payload.length / 256), BitVec.ofNat 8 payload.length] := rfl
    obtain ⟨n1, n0, isField⟩ : ∃ n1 n0 : Byte, [n1, n0] = be 2 payload.length := ⟨_, _, field.symm⟩
    have announced : nat16 n1 n0 = payload.length := (be_two_iff (by omega) n1 n0).mp isField
    have body : frameBody kind tag payload = kind :: tag :: n1 :: n0 :: payload := by
      rw [frameBody, ← isField]
      rfl
    obtain ⟨c1, c0, isCrc⟩ : ∃ c1 c0 : Byte, [c1, c0] = be 2 (crc16 (kind :: tag :: n1 :: n0 :: payload)).toNat :=
      ⟨_, _, rfl⟩
    have agrees := (be_two_iff (BitVec.isLt _) c1 c0).mp isCrc
    have bytes : frameBytes kind tag payload = 0xC3#8 :: 0x3C#8 :: kind :: tag :: n1 :: n0 :: (payload ++ [c1, c0]) := by
      simp [frameBytes, body, ← isCrc]
    rw [received, State.frameReceived_of_fresh (State.fresh_of_hunt hunt), List.foldl_append,
      State.foldl_rxByte_noise hunt quiet, bytes,
      State.foldl_rxByte_whole hunt slot kind tag announced.symm (by omega),
      State.frameByte_of_complete announced.symm (by omega), if_pos agrees]
    rfl
  · rw [State.exec_byte running (State.fresh_of_hunt hunt), State.rxByte_of_hunt hunt, isInto]
    rfl
  · have fresh : s.Fresh := fun got frame => by rw [sync] at frame; cases frame
    rw [State.exec_byte running fresh, State.rxByte_of_sync sync, isInto, isInto]
    rfl
  · have fresh : s.Fresh := fun _ _ => waits
    rw [State.exec_byte running fresh, State.rxByte_of_frame frame slot,
      State.frameByte_of_unfinished (unfinished_of_short (by simp; omega)), isInto]
    rfl
  · have fresh : s.Fresh := fun _ _ => waits
    have slot : got = [] → s.link.ready.length < 2 := fun empty => by simp [empty] at isGot
    rw [State.exec_byte running fresh, State.rxByte_of_frame frame slot, State.frameByte_of_unfinished, isInto]
    · rfl
    · rw [isGot]
      exact unfinished_of_length (by rw [nat16_eq]; omega) (by rw [nat16_eq]; omega)
  · have fresh : s.Fresh := fun _ _ => waits
    have slot : got = [] → s.link.ready.length < 2 := fun empty => by simp [empty] at isGot
    rw [State.exec_byte running fresh, State.rxByte_of_frame frame slot, isGot, isMore,
      State.frameByte_of_complete (by rw [nat16_eq]; omega) (by rw [nat16_eq]; omega), if_pos agrees]
    rfl
  · have fresh : s.Fresh := fun got frame => by rcases deaf with rx | rx <;> rw [rx] at frame <;> cases frame
    rw [State.exec_byte running fresh, State.rxByte_of_deaf deaf]
  · cases held : s.inReset with
    | true =>
      have still (bytes : List Byte) : exec (.frameReceived bytes) s = .next s := live_of_reset _ held
      exact ⟨s, still a, (still _).trans (still b).symm⟩
    | false =>
      have received (bytes : List Byte) (u : State) (live : u.inReset = false) :
          exec (.frameReceived bytes) u = .next (u.frameReceived bytes) := live_of_running _ live
      refine ⟨s.frameReceived a, received a s held, ?_⟩
      rw [received _ s held, received b _ ((s.frameReceived_inReset a).trans held), State.frameReceived_append]
  · have received (u : State) (live : u.inReset = false) :
        exec (.frameReceived bytes) u = .next (u.frameReceived bytes) := live_of_running _ live
    refine ⟨s.truncated, live_of_running _ running, ?_⟩
    rw [received s running, received _ (s.truncated_inReset.trans running),
      State.frameReceived_of_fresh s.truncated_fresh]
    rfl

end Sys2Proof
end

section
/-! PROOFS. Receive errors, framing errors and breaks (09, 9.4). -/

namespace Sys2Proof.Machine

section
variable {s : State} {got : List Byte}

/-- A third frame claims no slot (R170, R171). -/
theorem State.rxByte_of_full (frame : s.link.rx = .frame []) (full : 2 ≤ s.link.ready.length) (b : Byte) :
    s.rxByte b = s.linkError .overrun := by
  have same : { s with link := { s.link with rx := .frame [] } } = s := by rw [← frame]
  unfold State.rxByte
  rw [frame]
  refine (if_pos ?_).trans (by rw [same])
  rw [Bool.and_eq_true, decide_eq_true_iff]
  exact ⟨rfl, full⟩

/-- Without a TRUNCATED due, a framing error and a break are taken where the receiver listens (R171, R172). -/
theorem State.framingError_of_fresh (fresh : s.Fresh) (noBreak : s.link.rx ≠ .brk) (noReset : s.link.rx ≠ .reset) :
    s.framingError = s.linkError .framing ∧ s.lineBreak = s.enterBreak := by
  have listens : s.link.rx.listens = true := by
    unfold RxState.listens
    split
    · rfl
    · rfl
    · rfl
    · next rx => exact absurd rx noBreak
    · next rx => exact absurd rx noReset
  rw [State.framingError, State.lineBreak, if_pos listens, if_pos listens, State.truncated_of_fresh fresh]
  exact ⟨rfl, rfl⟩

theorem State.framingError_of_deaf (deaf : s.link.rx = .brk ∨ s.link.rx = .reset) :
    s.framingError = s ∧ s.lineBreak = s := by
  have still : ¬s.link.rx.listens = true := by rcases deaf with rx | rx <;> rw [rx] <;> decide
  exact ⟨if_neg still, if_neg still⟩

theorem State.lineBreakEnd_of_other (other : s.link.rx ≠ .brk) : s.lineBreakEnd = s := by
  unfold State.lineBreakEnd
  split
  · next rx => exact absurd rx other
  · rfl

end

end Sys2Proof.Machine

namespace Sys2Proof

open Machine

/-- Settles O56: each error by the byte or the command that finds it. -/
theorem receiveErrorsDiscard : Obligations.ReceiveErrorsDiscard := by
  intro s fail running isFail
  have received (bytes : List Byte) : exec (.frameReceived bytes) s = .next (s.frameReceived bytes) :=
    live_of_running _ running
  refine ⟨fun hunt => ⟨fun body kind tag n1 n0 c1 c0 payload slot isBody length fits wrong => ?_,
    fun kind full => ?_, fun kind tag n1 n0 slot long => ?_⟩, fun got frame due => ?_, fun quiet => ⟨?_,
    fun noBreak noReset => ⟨?_, ?_⟩⟩, fun deaf => ⟨?_, ?_⟩, fun brk => ?_, fun other => ?_⟩
  · have announced : payload.length = nat16 n1 n0 := length.trans (nat16_eq n1 n0).symm
    have bytes : 0xC3#8 :: 0x3C#8 :: body ++ [c1, c0] =
        0xC3#8 :: 0x3C#8 :: kind :: tag :: n1 :: n0 :: (payload ++ [c1, c0]) := by simp [isBody]
    rw [received, State.frameReceived_of_fresh (State.fresh_of_hunt hunt), bytes,
      State.foldl_rxByte_whole hunt slot kind tag announced (by omega),
      State.frameByte_of_complete announced (by omega), if_neg (by rwa [← isBody]), isFail, isBody]
    rfl
  · rw [received, State.frameReceived_of_fresh (State.fresh_of_hunt hunt), State.foldl_rxByte_sync hunt, List.foldl_cons,
      List.foldl_nil, State.rxByte_of_full (by rfl) (by exact full), isFail]
    rfl
  · have joined := State.foldl_rxByte_joining (got := []) slot [kind, tag, n1] fun a b parts =>
      unfinished_of_short (by
        have count := congrArg List.length parts
        simp only [List.length_cons, List.length_nil, List.length_append] at count ⊢
        omega)
    have bytes : [0xC3#8, 0x3C#8, kind, tag, n1, n0] = 0xC3#8 :: 0x3C#8 :: ([kind, tag, n1] ++ [n0]) := rfl
    have last : (s.joining [kind, tag, n1]).rxByte n0 = (s.joining [kind, tag, n1]).linkError .length :=
      (State.rxByte_of_frame (s := s.joining _) rfl (fun _ => slot) n0).trans
        (State.frameByte_of_long (by rw [nat16_eq]; exact long) [])
    rw [received, State.frameReceived_of_fresh (State.fresh_of_hunt hunt), bytes, State.foldl_rxByte_sync hunt,
      List.foldl_append, joined, List.foldl_cons, List.foldl_nil, List.nil_append, last, isFail]
    rfl
  · have ended : exec .truncated s = .next s.truncated := live_of_running _ running
    rw [ended, State.truncated_of_due frame due, isFail]
    rfl
  all_goals
    have framing : exec .framingError s = .next s.framingError := live_of_running _ running
    have broken : exec .lineBreak s = .next s.lineBreak := live_of_running _ running
    have resumed : exec .lineBreakEnd s = .next s.lineBreakEnd := live_of_running _ running
  · have ended : exec .truncated s = .next s.truncated := live_of_running _ running
    rw [ended, State.truncated_of_fresh fun got frame => quiet.resolve_left fun other => other got frame]
  · have fresh : s.Fresh := fun got frame => quiet.resolve_left fun other => other got frame
    rw [framing, (State.framingError_of_fresh fresh noBreak noReset).1, isFail]
    rfl
  · have fresh : s.Fresh := fun got frame => quiet.resolve_left fun other => other got frame
    rw [broken, (State.framingError_of_fresh fresh noBreak noReset).2]
    rfl
  · rw [framing, (State.framingError_of_deaf deaf).1]
  · rw [broken, (State.framingError_of_deaf deaf).2]
  · rw [resumed, State.lineBreakEnd]
    simp only [brk]
    rfl
  · rw [resumed, State.lineBreakEnd_of_other other]

end Sys2Proof
end

section
/-! PROOFS. The state right after reset (R163 to R165): its bounds, its law, its pins. -/

namespace Sys2Proof.Machine

theorem State.reset_ch (c : Chan) : State.reset.ch c = Channel.reset := Vector.getElem_replicate c.isLt

theorem State.reset_queuesBounded : State.reset.QueuesBounded where
  tick := Nat.zero_le _
  hitList := Nat.zero_le _
  locQueue := Nat.zero_le _
  slots := Nat.zero_le _
  notices := by decide
  data := Nat.zero_le _
  level := Nat.le_refl _

theorem Channel.reset_countersBounded : Channel.reset.CountersBounded := by
  constructor <;> decide

theorem State.reset_countersBounded : State.reset.CountersBounded where
  channels c := by
    rw [State.reset_ch]
    exact Channel.reset_countersBounded
  pressure := by decide
  cells x mem := nomatch mem
  zones c := by
    have zone : State.reset.map.zones[c] = ⟨0, 0, 0⟩ := Vector.getElem_replicate c.isLt
    rw [zone]
    decide
  arming := by decide
  errors := by decide
  lost := by decide

theorem State.reset_gridLegal : State.reset.GridLegal where
  cells := rfl
  geom _ loaded := nomatch loaded
  v := by decide

theorem State.reset_channelsLegal : State.reset.ChannelsLegal := by
  have run : State.reset.RunLegal :=
    { offers := fun waits => absurd rfl waits
      freeze := by decide
      check := fun _ => rfl
      began := fun _ progress => nomatch progress }
  refine (State.channelsLegal_iff _).mpr ⟨fun c => ?_, run⟩
  rw [State.reset_ch]
  exact Channel.reset_legal _ _

theorem State.reset_eventsLegal : State.reset.EventsLegal where
  closed _ := rfl
  members := Nat.zero_le _
  channels := List.nodup_nil
  window _ opened := nomatch opened
  number := by decide
  still _ := ⟨rfl, rfl, rfl, rfl⟩

theorem State.reset_listLegal : State.reset.ListLegal where
  order := List.Pairwise.nil
  front := List.Pairwise.nil
  settled _ mem := nomatch mem

/-- With no cell no line is asserted (R120). -/
theorem State.reset_lines : State.reset.lines = Vector.replicate 4 false := by decide +kernel

end Sys2Proof.Machine

namespace Sys2Proof

open Machine

/-- Settles O59: each invariant by its fields, the pins, and the fields themselves by definition. -/
theorem resetStateIsLawful : Obligations.ResetStateIsLawful :=
  ⟨⟨State.reset_queuesBounded, State.reset_countersBounded, State.reset_gridLegal, State.reset_channelsLegal,
    State.reset_eventsLegal, State.reset_listLegal⟩,
    ⟨rfl, State.reset_lines, rfl, rfl, fun _ => rfl⟩, rfl⟩

end Sys2Proof
end
